-- ==== Sys2Proof/Word.lean ====
section
/-! DEFINITION. The words of the block and the plain data built from them: bytes, command words, frame elements,
transactions and transport answers (00_scope.md R8, R10, R13; 30_encoding.md R80, R90; 41_execute.md R152). -/

namespace Sys2Proof

/-- One byte, `0x00`–`0xFF` (R10); also a device register address (`REG_ADDR_W = 8`, R8). -/
abbrev Byte := BitVec 8

/-- One 16-bit command word (R80). -/
abbrev CmdWord := BitVec 16

/-- A value of the host register-read port (R34). -/
abbrev Reg64 := BitVec 64

/-- The direction bit of an address+direction byte (R14): write is master to device. -/
inductive Dir where
  | write
  | read
  deriving DecidableEq, Repr, Inhabited

/-- The acknowledge policy of a byte read (R13, R83). -/
inductive AckPolicy where
  | ack
  | nack
  deriving DecidableEq, Repr, Inhabited

/-- A frame element (R13); its 11-bit form is `elementBits` (R90, log 11). -/
inductive Element where
  /-- `START`, first or repeated. -/
  | start
  /-- `WR(b, chk)`: byte `b`, `chk` the acknowledge-required flag. -/
  | wr (b : Byte) (chk : Bool)
  /-- `RD(pol)`. -/
  | rd (pol : AckPolicy)
  /-- `STOP`. -/
  | stop
  deriving DecidableEq, Repr, Inhabited

/-- A transaction: a list of frame elements (R13, R92). -/
abbrev Txn := List Element

/-- The transport's answer to one call (R152). -/
inductive Answer where
  /-- `Ok(d)`: every element was performed; `d` the bytes read. -/
  | ok (d : List Byte)
  /-- `Nack(i)`: the required acknowledge of element `i` was missing. -/
  | nack (i : Nat)
  /-- `Timeout`. -/
  | timeout
  deriving DecidableEq, Repr, Inhabited

end Sys2Proof
end

