-- ==== Sys2Proof/Config.lean ====
section
/-! DEFINITION. What an instance of the block fixes: the parameters of 00_scope.md R8 and the register-map ROM of
10_state.md R40; and the free values of the model, opaque constants nothing in Lean can evaluate (log 3, 4, 5, 7, 23). -/

namespace Sys2Proof

/-- The number formats of the Celsius result; the spec fixes binary64 (R8, D22). -/
inductive TempFmt where
  | binary64
  deriving DecidableEq, Repr, Inhabited

/-- The parameters of R8, the register-map ROM of R40 and the two literals of R216, parameters by R9. -/
structure Config where
  /-- `REG_ADDR_W`; the spec fixes 8, and `Config.wf` requires it (log 3). -/
  regAddrW : Nat
  /-- `DEV_ADDR_W`; the spec fixes 7, and `Config.wf` requires it (log 3). -/
  devAddrW : Nat
  /-- `SAMPLE_W`; the spec fixes 16, and `Config.wf` requires it (log 3). -/
  sampleW : Nat
  /-- `TXN_CAP`, maximum number of elements of a transaction. -/
  txnCap : Nat
  /-- `RD_CAP`, number of read-data slots. -/
  rdCap : Nat
  /-- `TIMEOUT`, passed to the transport; its unit is open (log 16). -/
  timeout : Nat
  /-- `TEMP_FMT`. -/
  tempFmt : TempFmt
  /-- The literal `340.0` of R9 and R216, as the binary64 pattern of its value (log 23). -/
  tempDivisor : BitVec 64
  /-- The literal `36.53` of R9 and R216, as the binary64 pattern nearest it, R216's `C` (log 23). -/
  tempOffset : BitVec 64
  /-- `DEV_ADDR`, host register 0x10. -/
  devAddr : BitVec 7
  regWhoAmI : Byte
  regPwrMgmt : Byte
  regSmplrtDiv : Byte
  regConfig : Byte
  regGyroConfig : Byte
  regAccelConfig : Byte
  regAccelXoutH : Byte
  regTempOutH : Byte
  /-- `ID_EXPECT`, host register 0x19. -/
  idExpect : Byte
  cfgPwrVal : Byte
  cfgSmplrtVal : Byte
  cfgDlpfVal : Byte
  cfgGyroVal : Byte
  cfgAccelVal : Byte
  deriving DecidableEq, Repr

/-- The default configuration of R8 and R40, with the literals of R216 as the spec writes them. The register addresses and `DEV_ADDR` are the spec's defaults "from general
knowledge, not in source" (D18, log 4); the capacities are the defaults of OPEN parameters (D7, log 3). -/
def Config.default : Config where
  regAddrW := 8
  devAddrW := 7
  sampleW := 16
  txnCap := 16
  rdCap := 8
  timeout := 1000
  tempFmt := .binary64
  tempDivisor := 0x4075400000000000
  tempOffset := 0x404243D70A3D70A4
  devAddr := 0x68
  regWhoAmI := 0x75
  regPwrMgmt := 0x6B
  regSmplrtDiv := 0x19
  regConfig := 0x1A
  regGyroConfig := 0x1B
  regAccelConfig := 0x1C
  regAccelXoutH := 0x3B
  regTempOutH := 0x41
  idExpect := 0x68
  cfgPwrVal := 0x00
  cfgSmplrtVal := 0x07
  cfgDlpfVal := 0x00
  cfgGyroVal := 0x00
  cfgAccelVal := 0x00

/-- FREE VALUE (R152, A4): what the transport answers to the draw of this number, for a transaction and a timeout. Only
answers that R153 admits are used (`freeAnswer`). No body: nothing is known of it (log 5). -/
opaque Config.transport : Nat → Txn → Nat → Answer

/-- FREE VALUE (R157, A6): the byte a read slot holds after the failed transaction of this draw number. No body (log 7). -/
opaque Config.freeByte : Nat → Nat → Byte

end Sys2Proof
end

