-- ==== Sys2Proof/Machine/State.lean ====
section
/-! DEFINITION. The block's state (10_state.md R20–R42) as plain data, the environment the model adds to it (host inputs and
transport answers, log 1, 2, 5, 6), the reasons a step can stop, and the state after reset (R41, R260). -/

namespace Sys2Proof.Machine

/-- Status codes (R23). Codes 8–15 are reserved and never written (A12), so they are no value of the type (log 13). -/
inductive StatusCode where
  | ok
  | deviceNotPresent
  | busTimeout
  | busNack
  | malformed
  | workflowOrder
  | busy
  | illegalCommand
  deriving DecidableEq, Repr

/-- Malformed reasons (R24). Reasons 12–15 are reserved and never written (A12, log 13). -/
inductive MReason where
  | none
  | noTxn
  | noStart
  | addrExpected
  | dirMismatch
  | ackOnLast
  | readAfterNack
  | afterStop
  | missingStop
  | capacity
  | addrMisplaced
  | emptyRead
  deriving DecidableEq, Repr

/-- Builder phases `BPH` (R26). -/
inductive Phase where
  | closed
  | empty
  | afterStart
  | wphase
  | rphaseAddr
  | rphaseMore
  | rphaseDone
  | stopped
  deriving DecidableEq, Repr

/-- Driver workflow states `WF` (R29). -/
inductive Workflow where
  | uninitialized
  | identityVerified
  | configured
  | sampling
  deriving DecidableEq, Repr

/-- One entry of `BUSLOG`: a transaction handed to the transport and its answer (R37). -/
abbrev BusEntry := Txn × Answer

/-- What the host may do between commands (R272): the inputs of the block (log 1, 2). -/
inductive HostInput where
  /-- Present a command word (R80). -/
  | command (w : CmdWord)
  /-- Read host register `n` through the read port (R34). -/
  | read (n : Byte)
  /-- Assert reset (R260). -/
  | reset
  deriving DecidableEq, Repr

/-- The state: R20's components, then the model's own environment fields. -/
structure State where
  /-- Register-map ROM (R39, R40) and the parameters of R8; constant (log 3). -/
  cfg : Config
  /-- `STATUS.CODE` (R22). -/
  code : StatusCode
  /-- `STATUS.MREASON` (R22). -/
  mreason : MReason
  /-- `STICKY[7:0]` (R25, log 12). -/
  sticky : BitVec 8
  /-- `BPH` (R26). -/
  bph : Phase
  /-- `BUF[0..TXN_CAP-1]` (R27). -/
  buf : List Element
  /-- `BN` (R27). -/
  bn : Nat
  /-- `BNR` (R28). -/
  bnr : Nat
  /-- `WF` (R29). -/
  wf : Workflow
  /-- `RDATA[0..RD_CAP-1]` (R30). -/
  rdata : List Byte
  /-- `RD_COUNT` (R30). -/
  rdCount : Nat
  /-- `VALID[0] = RDATA_V` (R31). -/
  rdataV : Bool
  /-- `VALID[1] = ACCEL_V` (R31). -/
  accelV : Bool
  /-- `VALID[2] = TEMP_V` (R31). -/
  tempV : Bool
  /-- `ACCEL_X_RAW` (R32). -/
  accelXRaw : BitVec 16
  /-- `TEMP_RAW` (R33). -/
  tempRaw : BitVec 16
  /-- `TEMP_C`, a binary64 pattern (R33). -/
  tempC : BitVec 64
  /-- `BUSLOG`, oldest first (R37). -/
  busLog : List BusEntry
  /-- MODEL: host inputs still to come, oldest first (log 1). -/
  host : List HostInput
  /-- MODEL: what the host's register reads have returned, oldest first (log 2). -/
  readLog : List (Byte × Reg64)
  /-- MODEL: transport answers still to come, oldest first; with none left the answers are free (log 5). -/
  answers : List Answer
  /-- MODEL: number of the next draw of the free values (log 5, 7). -/
  draws : Nat
  deriving DecidableEq, Repr

/-- Reasons the machine could stop with a fault. The block has none: every failure is a status code of the command that met
it and the block goes on (R230, R234), so the type has no constructor and no step faults. -/
inductive Fault where
  deriving DecidableEq, Repr

/-- Reasons a step could be refused. -/
inductive Refusal where
  /-- An instruction without a meaning, rejected by name in exec's arm. No arm raises it: all eleven commands have their
  meaning. Safe. -/
  | notModelled (mnemonic : String)
  deriving DecidableEq, Repr

/-- The machine right after reset (R41, R260) in the default configuration (R8, R40), with no host input and no transport
answer pending (log 6). -/
def State.reset : State where
  cfg := Config.default
  code := .ok
  mreason := .none
  sticky := 0
  bph := .closed
  buf := List.replicate Config.default.txnCap .start
  bn := 0
  bnr := 0
  wf := .uninitialized
  rdata := List.replicate Config.default.rdCap 0
  rdCount := 0
  rdataV := false
  accelV := false
  tempV := false
  accelXRaw := 0
  tempRaw := 0
  tempC := 0
  busLog := []
  host := []
  readLog := []
  answers := []
  draws := 0

end Sys2Proof.Machine
end

