-- ==== Sys2Proof/Machine/Flags.lean ====
section
/-! DEFINITION. The numbers of codes, reasons, phases and workflow states, the STICKY computation, and the packed words the
read port returns (10_state.md R22–R31, R42). -/

namespace Sys2Proof.Machine

/-- The number of a status code (R23). -/
def codeNum : StatusCode → Nat
  | .ok => 0
  | .deviceNotPresent => 1
  | .busTimeout => 2
  | .busNack => 3
  | .malformed => 4
  | .workflowOrder => 5
  | .busy => 6
  | .illegalCommand => 7

/-- The number of a malformed reason (R24). -/
def reasonNum : MReason → Nat
  | .none => 0
  | .noTxn => 1
  | .noStart => 2
  | .addrExpected => 3
  | .dirMismatch => 4
  | .ackOnLast => 5
  | .readAfterNack => 6
  | .afterStop => 7
  | .missingStop => 8
  | .capacity => 9
  | .addrMisplaced => 10
  | .emptyRead => 11

/-- The number of a builder phase (R26). -/
def phaseNum : Phase → Nat
  | .closed => 0
  | .empty => 1
  | .afterStart => 2
  | .wphase => 3
  | .rphaseAddr => 4
  | .rphaseMore => 5
  | .rphaseDone => 6
  | .stopped => 7

/-- The number of a workflow state (R29). -/
def workflowNum : Workflow → Nat
  | .uninitialized => 0
  | .identityVerified => 1
  | .configured => 2
  | .sampling => 3

/-- The STICKY bit of a failure code, `STICKY[c]`; `OK` has none (R25). -/
def stickyBit : StatusCode → BitVec 8
  | .ok => 0x00
  | .deviceNotPresent => 0x02
  | .busTimeout => 0x04
  | .busNack => 0x08
  | .malformed => 0x10
  | .workflowOrder => 0x20
  | .busy => 0x40
  | .illegalCommand => 0x80

/-- `STICKY` after a command that finishes with code `c`: its bit set, no bit cleared (R25). -/
def stickyAfter (c : StatusCode) (v : BitVec 8) : BitVec 8 := v ||| stickyBit c

/-- The number `v` in a field of `width` bits whose lowest bit is `lo`. -/
def field (lo width v : Nat) : Nat := v % 2 ^ width * 2 ^ lo

/-- `STATUS`: `MREASON` in [7:4], `CODE` in [3:0], the rest 0 (R22). -/
def statusWord (s : State) : Reg64 :=
  BitVec.ofNat 64 (field 4 4 (reasonNum s.mreason) + field 0 4 (codeNum s.code))

/-- `STICKY`: bits 7..1; bit 0 and [63:8] read 0 (R25). -/
def stickyWord (s : State) : Reg64 := (s.sticky &&& 0xFE).setWidth 64

/-- `WFSTATE` (R29). -/
def wfWord (s : State) : Reg64 := BitVec.ofNat 64 (field 0 2 (workflowNum s.wf))

/-- `BSTATE`: `BNR` in [23:16], `BN` in [15:8], `BPH` in [2:0], the rest 0 (R26–R28, log 10). -/
def bstateWord (s : State) : Reg64 :=
  BitVec.ofNat 64 (field 16 8 s.bnr + field 8 8 s.bn + field 0 3 (phaseNum s.bph))

/-- `VALID`: `TEMP_V`, `ACCEL_V`, `RDATA_V` in bits 2, 1, 0 (R31). -/
def validWord (s : State) : Reg64 :=
  BitVec.ofNat 64 (field 2 1 s.tempV.toNat + field 1 1 s.accelV.toNat + field 0 1 s.rdataV.toNat)

/-- `RD_COUNT` in [7:0] (R30, log 10). -/
def rdCountWord (s : State) : Reg64 := BitVec.ofNat 64 (field 0 8 s.rdCount)

end Sys2Proof.Machine
end

