-- ==== Sys2Proof/Syntax.lean ====
section
/-! DEFINITION. The commands: one constructor per row of spec/opcode_table.json (30_encoding.md R84). -/

namespace Sys2Proof

/-- The eleven commands of R84 with their operands (R83). -/
inductive Instr where
  /-- BEGIN (R118). -/
  | beginTxn
  /-- START (R121). -/
  | start
  /-- ADDR with its direction and acknowledge-required flag (R124). -/
  | addr (dir : Dir) (chk : Bool)
  /-- WRITE_BYTE with its byte and acknowledge-required flag (R127). -/
  | writeByte (imm8 : Byte) (chk : Bool)
  /-- READ_BYTE with its acknowledge policy (R130). -/
  | readByte (pol : AckPolicy)
  /-- STOP (R133). -/
  | stop
  /-- EXECUTE (R150). -/
  | execute
  /-- VERIFY_IDENTITY (R192). -/
  | verifyIdentity
  /-- CONFIGURE (R197). -/
  | configure
  /-- READ_ACCEL_X (R204). -/
  | readAccelX
  /-- READ_TEMP (R210). -/
  | readTemp
  deriving DecidableEq, Repr

end Sys2Proof
end

