-- ==== Sys2Proof/WellFormed.lean ====
section
/-! DEFINITION. Well-formedness: of a configuration (00_scope.md R8), of a built transaction (40_builder.md R115 (a)–(e)) and
of a command. -/

namespace Sys2Proof

/-- The widths R8 fixes: those of the types of register addresses, of the device address and of samples. -/
def Config.widthsWf (c : Config) : Bool :=
  decide (c.regAddrW = 8) && decide (c.devAddrW = 7) && decide (c.sampleW = 16)

/-- The bounds R8 puts on the OPEN capacities. -/
def Config.capsWf (c : Config) : Bool :=
  decide (8 ≤ c.txnCap) && decide (c.txnCap ≤ 255) && decide (2 ≤ c.rdCap) && decide (c.rdCap ≤ 64)

/-- A binary64 pattern that is neither infinite nor NaN. -/
def isFinite64 (x : BitVec 64) : Bool := decide (x.extractLsb' 52 11 ≠ 0x7FF)

/-- The literals of the Celsius transform are numbers, the divisor not a zero and the offset not −0.0 (log 23). -/
def Config.literalsWf (c : Config) : Bool :=
  isFinite64 c.tempDivisor && decide (c.tempDivisor.extractLsb' 0 63 ≠ 0) &&
    isFinite64 c.tempOffset && decide (c.tempOffset ≠ 0x8000000000000000)

/-- A configuration the block can have (R8, R9). -/
def Config.wf (c : Config) : Bool := c.widthsWf && c.capsWf && c.literalsWf

/-- Number of RD elements of a transaction (R28, R153). -/
def countReads : Txn → Nat
  | [] => 0
  | .rd _ :: t => countReads t + 1
  | _ :: t => countReads t

/-- An element that is a WR. -/
def isWr : Element → Bool
  | .wr _ _ => true
  | _ => false

/-- `n ≥ 1` reads and nothing else, the first `n − 1` with policy ACK and the last with NACK (R115 (d)). -/
def readBurst : Txn → Bool
  | [.rd .nack] => true
  | .rd .ack :: t => readBurst t
  | _ => false

/-- R115 (b)–(d) for one phase, the elements after a START up to the next START or STOP: an address byte, then writes only in
a write phase and a read burst in a read phase. -/
def phaseBody : Txn → Bool
  | .wr b _ :: t => if b.getLsbD 0 then readBurst t else t.all isWr
  | _ => false

/-- The elements before the first START or STOP, and the phases after it. -/
def splitPhases : Txn → Txn × List Txn
  | [] => ([], [])
  | .start :: t => ([], (splitPhases t).1 :: (splitPhases t).2)
  | .stop :: t => ([], (splitPhases t).2)
  | e :: t => (e :: (splitPhases t).1, (splitPhases t).2)

/-- R115 (a): START first, STOP last and nowhere else. -/
def startStop (T : Txn) : Bool :=
  decide (T.head? = some .start) && decide (T.getLast? = some .stop) && decide (Element.stop ∉ T.dropLast)

/-- R115 (a)–(d): the shape of a built transaction. -/
def txnShape (T : Txn) : Bool :=
  startStop T && (splitPhases T).2.all phaseBody

/-- R115 (a)–(e): a well-formed transaction of a block with this configuration. -/
def txnWf (c : Config) (T : Txn) : Bool :=
  txnShape T && decide (T.length ≤ c.txnCap) && decide (countReads T ≤ c.rdCap)

/-- Every operand's type holds exactly the values of its field (R81, R83), so no command is ill-formed once decoded. -/
def Instr.wf : Instr → Bool
  | .beginTxn => true
  | .start => true
  | .addr _ _ => true
  | .writeByte _ _ => true
  | .readByte _ => true
  | .stop => true
  | .execute => true
  | .verifyIdentity => true
  | .configure => true
  | .readAccelX => true
  | .readTemp => true

end Sys2Proof
end

