-- ==== Sys2Proof/Decode.lean ====
section
/-! DEFINITION. Decoding and encoding of command words (30_encoding.md R81–R87): total on all 65 536 words, an illegal word
rejected by name (log 20). -/

namespace Sys2Proof

/-- Why a word decodes to no command (R85, R86). Both reasons behave identically. -/
inductive IllegalWord where
  /-- Opcode 0x0 or 0xC–0xF. -/
  | reservedOpcode
  /-- A nonzero bit where R82 shows 0. -/
  | reservedBits
  deriving DecidableEq, Repr

/-- What `decode` answers (R85). -/
inductive Decoded where
  | command (i : Instr)
  | illegal (why : IllegalWord)
  deriving DecidableEq, Repr

/-- `OPC = w[15:12]` (R81). -/
def opcField (w : CmdWord) : BitVec 4 := w.extractLsb' 12 4

/-- `w[11:0]`, all of it 0 in Format N (R82). -/
def operandField (w : CmdWord) : BitVec 12 := w.extractLsb' 0 12

/-- `RSV = w[11:9]` (R81). -/
def rsvField (w : CmdWord) : BitVec 3 := w.extractLsb' 9 3

/-- `F8 = w[8]` (R81). -/
def f8Field (w : CmdWord) : Bool := w.getLsbD 8

/-- `IMM8 = w[7:0]` (R81). -/
def imm8Field (w : CmdWord) : Byte := w.extractLsb' 0 8

/-- `w[7:1]`, 0 in ADDR (R81). -/
def addrRsvField (w : CmdWord) : BitVec 7 := w.extractLsb' 1 7

/-- Direction of a bit: 0 write, 1 read (R14, R83). -/
def dirOfBit (b : Bool) : Dir := if b then .read else .write

/-- The direction bit (R14). -/
def dirBit : Dir → Bool
  | .write => false
  | .read => true

/-- Acknowledge policy of `NACK = w[8]`: 0 ACK, 1 NACK (R83). -/
def policyOfBit (b : Bool) : AckPolicy := if b then .nack else .ack

/-- The NACK bit (R83, R90). -/
def policyBit : AckPolicy → Bool
  | .ack => false
  | .nack => true

/-- Format N: every operand bit 0 (R82). -/
def decodeN (i : Instr) (w : CmdWord) : Decoded :=
  if operandField w = 0 then .command i else .illegal .reservedBits

/-- Format A: ADDR (R82). -/
def decodeA (w : CmdWord) : Decoded :=
  if rsvField w = 0 ∧ addrRsvField w = 0 then .command (.addr (dirOfBit (w.getLsbD 0)) (f8Field w))
  else .illegal .reservedBits

/-- Format W: WRITE_BYTE (R82). -/
def decodeW (w : CmdWord) : Decoded :=
  if rsvField w = 0 then .command (.writeByte (imm8Field w) (f8Field w)) else .illegal .reservedBits

/-- Format R: READ_BYTE (R82). -/
def decodeR (w : CmdWord) : Decoded :=
  if rsvField w = 0 ∧ imm8Field w = 0 then .command (.readByte (policyOfBit (f8Field w))) else .illegal .reservedBits

/-- R85, with the opcode map of R84. -/
def decode (w : CmdWord) : Decoded :=
  match (opcField w).toNat with
  | 0x1 => decodeN .beginTxn w
  | 0x2 => decodeN .start w
  | 0x3 => decodeA w
  | 0x4 => decodeW w
  | 0x5 => decodeR w
  | 0x6 => decodeN .stop w
  | 0x7 => decodeN .execute w
  | 0x8 => decodeN .verifyIdentity w
  | 0x9 => decodeN .configure w
  | 0xA => decodeN .readAccelX w
  | 0xB => decodeN .readTemp w
  | _ => .illegal .reservedOpcode

/-- A bit, in the least significant place of a word of `n` bits. -/
def bitIn (n : Nat) (b : Bool) : BitVec n := (BitVec.ofBool b).setWidth n

/-- A word from its fields `OPC`, `F8` and `IMM8`, `RSV` 0 (R81). -/
def packWord (opc : BitVec 4) (f8 : Bool) (low : Byte) : CmdWord :=
  (opc.setWidth 16 <<< 12) ||| (bitIn 16 f8 <<< 8) ||| low.setWidth 16

/-- The word of a command (R82, R84). -/
def encode : Instr → CmdWord
  | .beginTxn => packWord 0x1 false 0
  | .start => packWord 0x2 false 0
  | .addr dir chk => packWord 0x3 chk (bitIn 8 (dirBit dir))
  | .writeByte imm8 chk => packWord 0x4 chk imm8
  | .readByte pol => packWord 0x5 (policyBit pol) 0
  | .stop => packWord 0x6 false 0
  | .execute => packWord 0x7 false 0
  | .verifyIdentity => packWord 0x8 false 0
  | .configure => packWord 0x9 false 0
  | .readAccelX => packWord 0xA false 0
  | .readTemp => packWord 0xB false 0

/-- The command a decoder's answer holds, if any. -/
def commandOf : Decoded → Option Instr
  | .command i => some i
  | .illegal _ => none

/-- The command word whose bits are `w`, numbered as the opcode table numbers them: one 16-bit word, presented whole (R80);
bits from `nbits` on are 0. -/
def tableWord (nbits w : Nat) : CmdWord := BitVec.ofNat 16 (w % 2 ^ nbits)

/-- The command the decoder reads from an opcode-table word; none where it refuses. -/
def decodeTableWord (nbits w : Nat) : Option Instr := commandOf (decode (tableWord nbits w))

end Sys2Proof
end

