-- ==== Sys2Proof/Machine/Operands.lean ====
section
/-! DEFINITION. Operand forms: the address+direction byte, the frame element a builder command appends and its 11-bit form,
the answers R153 admits, the sample assembly (00_scope.md R14; 30_encoding.md R90, R91; 41_execute.md R153; 42_sequencer.md
R215), and the fixed transactions of the sequencer (42_sequencer.md R184–R186, R198). -/

namespace Sys2Proof.Machine

/-- `AB(dir) = {DEV_ADDR[6:0], dir}` (R14). -/
def addressByte (c : Config) (dir : Dir) : Byte := (c.devAddr.setWidth 8 <<< 1) ||| bitIn 8 (dirBit dir)

/-- The builder commands that append an element: the columns of R113. -/
inductive BuilderCmd where
  | start
  | addr (dir : Dir) (chk : Bool)
  | writeByte (b : Byte) (chk : Bool)
  | readByte (pol : AckPolicy)
  | stop
  deriving DecidableEq, Repr

/-- The element a builder command appends (R91). -/
def elementOf (c : Config) : BuilderCmd → Element
  | .start => .start
  | .addr dir chk => .wr (addressByte c dir) chk
  | .writeByte b chk => .wr b chk
  | .readByte pol => .rd pol
  | .stop => .stop

/-- `{KIND, FLAG, DATA}` (R90). -/
def packElement (kind : BitVec 2) (flag : Bool) (data : Byte) : BitVec 11 :=
  (kind.setWidth 11 <<< 9) ||| (bitIn 11 flag <<< 8) ||| data.setWidth 11

/-- The 11-bit form of an element (R90). -/
def elementBits : Element → BitVec 11
  | .start => packElement 0b00 false 0
  | .wr b chk => packElement 0b01 chk b
  | .rd pol => packElement 0b10 (policyBit pol) 0
  | .stop => packElement 0b11 false 0

/-- An element with `e[10:9] = 0b10`, an RD (R111). -/
def isRead : Element → Bool
  | .rd _ => true
  | _ => false

/-- A WR with `chk = 1`: the only element a `Nack` can name (R153). -/
def ackRequired : Element → Bool
  | .wr _ chk => chk
  | _ => false

/-- The answers the transport may give to `T` (R153). -/
def admissible (T : Txn) : Answer → Bool
  | .ok d => decide (d.length = countReads T)
  | .nack i => ((T[i]?).map ackRequired).getD false
  | .timeout => true

/-- `be16(hi, lo)`, by shift-and-or: the first-read byte is the most significant (R215). -/
def be16 (hi lo : Byte) : BitVec 16 := (hi.setWidth 16 <<< 8) ||| lo.setWidth 16

/-- `T_ID` (R184). -/
def txnId (c : Config) : Txn :=
  [.start, .wr (addressByte c .write) true, .wr c.regWhoAmI true,
   .start, .wr (addressByte c .read) true, .rd .nack, .stop]

/-- `T_CFG(r, v)` (R185). -/
def txnCfg (c : Config) (r v : Byte) : Txn :=
  [.start, .wr (addressByte c .write) true, .wr r true, .wr v true, .stop]

/-- `T_RD2(r)` (R186). -/
def txnRd2 (c : Config) (r : Byte) : Txn :=
  [.start, .wr (addressByte c .write) true, .wr r true,
   .start, .wr (addressByte c .read) true, .rd .ack, .rd .nack, .stop]

/-- `CFG_LIST`: five writes, power management first (R198, R199, C1). -/
def cfgList (c : Config) : List (Byte × Byte) :=
  [(c.regPwrMgmt, c.cfgPwrVal), (c.regSmplrtDiv, c.cfgSmplrtVal), (c.regConfig, c.cfgDlpfVal),
   (c.regGyroConfig, c.cfgGyroVal), (c.regAccelConfig, c.cfgAccelVal)]

end Sys2Proof.Machine
end

