-- ==== Sys2Proof/Machine/Ops.lean ====
section
/-! DEFINITION. The shared operations: reporting a status (00_scope.md R12, 40_builder.md R112), building (R111, R113, R114),
the transport call (41_execute.md R151–R157, 42_sequencer.md R182), and taking a host input (00_scope.md R6). -/

namespace Sys2Proof.Machine

/-! ### Reporting: what replaces taking an exception (R12, R234) -/

/-- Status and STICKY at the end of a command (R22, R25). -/
def setStatus (c : StatusCode) (r : MReason) (s : State) : State :=
  { s with code := c, mreason := r, sticky := stickyAfter c s.sticky }

/-- `finish(code)` (R12). -/
def finish (c : StatusCode) (s : State) : State := setStatus c .none s

/-- The open transaction discarded: `BPH <- CLOSED; BN <- 0; BNR <- 0` (R112, R158). -/
def discardTxn (s : State) : State := { s with bph := .closed, bn := 0, bnr := 0 }

/-- `malformed(r)` (R112). -/
def malformed (r : MReason) (s : State) : State := setStatus .malformed r (discardTxn s)

/-! ### Building (R110–R114) -/

/-- An entry of the table of R113: a next phase or a malformed reason. -/
inductive TableEntry where
  | next (p : Phase)
  | bad (r : MReason)
  deriving DecidableEq, Repr

/-- The phase an address byte opens: its bit 0 is the direction (R113, R127). -/
def phaseOfDir : Dir → Phase
  | .write => .wphase
  | .read => .rphaseAddr

/-- The phase a read leads to (R113). -/
def phaseOfPolicy : AckPolicy → Phase
  | .ack => .rphaseMore
  | .nack => .rphaseDone

/-- `TRANS(BPH, c)` (R113), a row of the table per phase. -/
def transTable : Phase → BuilderCmd → TableEntry
  | .closed, _ => .bad .noTxn
  | .empty, .start => .next .afterStart
  | .empty, _ => .bad .noStart
  | .afterStart, .addr dir _ => .next (phaseOfDir dir)
  | .afterStart, .writeByte b _ => .next (phaseOfDir (dirOfBit (b.getLsbD 0)))
  | .afterStart, _ => .bad .addrExpected
  | .wphase, .start => .next .afterStart
  | .wphase, .addr _ _ => .bad .addrMisplaced
  | .wphase, .writeByte _ _ => .next .wphase
  | .wphase, .readByte _ => .bad .dirMismatch
  | .wphase, .stop => .next .stopped
  | .rphaseAddr, .start => .bad .emptyRead
  | .rphaseAddr, .addr _ _ => .bad .addrMisplaced
  | .rphaseAddr, .writeByte _ _ => .bad .dirMismatch
  | .rphaseAddr, .readByte pol => .next (phaseOfPolicy pol)
  | .rphaseAddr, .stop => .bad .emptyRead
  | .rphaseMore, .start => .bad .ackOnLast
  | .rphaseMore, .addr _ _ => .bad .addrMisplaced
  | .rphaseMore, .writeByte _ _ => .bad .dirMismatch
  | .rphaseMore, .readByte pol => .next (phaseOfPolicy pol)
  | .rphaseMore, .stop => .bad .ackOnLast
  | .rphaseDone, .start => .next .afterStart
  | .rphaseDone, .addr _ _ => .bad .addrMisplaced
  | .rphaseDone, .writeByte _ _ => .bad .dirMismatch
  | .rphaseDone, .readByte _ => .bad .readAfterNack
  | .rphaseDone, .stop => .next .stopped
  | .stopped, _ => .bad .afterStop

/-- `Append(e)` (R111). -/
def appendElement (e : Element) (s : State) : State :=
  { s with buf := s.buf.set s.bn e, bn := s.bn + 1, bnr := if isRead e then s.bnr + 1 else s.bnr }

/-- The capacity check of R114: no room for `e`, among the elements or, for a read, among the read slots. -/
def overCapacity (e : Element) (s : State) : Bool :=
  decide (s.cfg.txnCap ≤ s.bn) || (isRead e && decide (s.cfg.rdCap ≤ s.bnr))

/-- `S.BPH <- p`. -/
def setPhase (p : Phase) (s : State) : State := { s with bph := p }

/-- `BuilderStep(c, e)` (R114): the table's reason, then CAPACITY, then the append. -/
def builderStep (c : BuilderCmd) (s : State) : State :=
  match transTable s.bph c with
  | .bad r => malformed r s
  | .next p =>
    if overCapacity (elementOf s.cfg c) s then malformed .capacity s
    else finish .ok (setPhase p (appendElement (elementOf s.cfg c) s))

/-! ### The transport call (R151–R157, R182) -/

/-- The open transaction `[BUF[0], …, BUF[BN−1]]` (R92). -/
def openTxn (s : State) : Txn := s.buf.take s.bn

/-- A free answer (R152): the transport's own where R153 admits it, `Timeout`, which is possible for every transaction,
where not (log 5). -/
def freeAnswer (k : Nat) (T : Txn) (timeout : Nat) : Answer :=
  if admissible T (Config.transport k T timeout) then Config.transport k T timeout else .timeout

/-- `Transport(T, TIMEOUT)` (R152): the next pending answer where R153 admits it, else a free one (log 5). -/
def transportAnswer (s : State) (T : Txn) : Answer :=
  match s.answers with
  | [] => freeAnswer s.draws T s.cfg.timeout
  | a :: _ => if admissible T a then a else freeAnswer s.draws T s.cfg.timeout

/-- The status code of an answer (R160). -/
def answerCode : Answer → StatusCode
  | .ok _ => .ok
  | .nack _ => .busNack
  | .timeout => .busTimeout

/-- `BUSLOG <- BUSLOG ++ [(T, out)]` (R151), and the draw is used up. -/
def logCall (T : Txn) (out : Answer) (s : State) : State :=
  { s with busLog := s.busLog ++ [(T, out)], answers := s.answers.tail, draws := s.draws + 1 }

/-- `RDATA[k] <- d[k]` for `k < n`, the other slots unchanged (R157). -/
def fillSlots (n : Nat) (d old : List Byte) : List Byte :=
  old.mapIdx fun k b => if k < n then d.getD k b else b

/-- Every slot an unspecified byte (R157): the free bytes of draw `k` (log 7). -/
def freeSlots (k cap : Nat) : List Byte := (List.range cap).map (Config.freeByte k)

/-- `RDATA` after an answer (R157). -/
def slotsAfter (k n : Nat) (s : State) : Answer → List Byte
  | .ok d => fillSlots n d s.rdata
  | _ => freeSlots k s.cfg.rdCap

/-- `RD_COUNT` after an answer to a transaction with `n` reads (R157). -/
def countAfter (n : Nat) : Answer → Nat
  | .ok _ => n
  | _ => 0

/-- `VALID[0]` after an answer (R31, R157). -/
def validAfter : Answer → Bool
  | .ok _ => true
  | _ => false

/-- The effects of an answer on the read data (R157): `k` the draw, `n` the number of reads. -/
def receive (k n : Nat) (out : Answer) (s : State) : State :=
  { s with rdata := slotsAfter k n s out, rdCount := countAfter n out, rdataV := validAfter out }

/-- `RunTxn()` for a given answer (R151). -/
def runWith (out : Answer) (s : State) : State :=
  receive s.draws s.bnr out (discardTxn (logCall (openTxn s) out s))

/-- `RunTxn()` (R151): the state after it and its code. -/
def runTxn (s : State) : State × StatusCode :=
  (runWith (transportAnswer s (openTxn s)) s, answerCode (transportAnswer s (openTxn s)))

/-- `BUF[k] <- T[k]; BN <- |T|; BNR <- reads of T; BPH <- STOPPED` (R182). -/
def loadTxn (T : Txn) (s : State) : State :=
  { s with buf := T ++ s.buf.drop T.length, bn := T.length, bnr := countReads T, bph := .stopped }

/-- `SeqTxn(T)` (R182). -/
def seqTxn (T : Txn) (s : State) : State × StatusCode := runTxn (loadTxn T s)

/-! ### Host inputs (R6, R70, R272) -/

/-- The next host input, if one is pending. -/
def nextInput (s : State) : Option HostInput := s.host.head?

/-- The next host input taken. -/
def popInput (s : State) : State := { s with host := s.host.tail }

/-- A command word presented before every pending input. -/
def pushWord (w : CmdWord) (s : State) : State := { s with host := .command w :: s.host }

end Sys2Proof.Machine
end

