-- ==== Sys2Proof/Machine/Builder.lean ====
section
/-! DEFINITION. The six builder commands (40_builder.md R118–R134). They never touch the bus (R116). -/

namespace Sys2Proof.Machine

/-- BEGIN (R118): a new empty transaction; an open one is dropped, never sent. -/
def execBegin (s : State) : Host.Outcome State Fault Refusal :=
  .next (finish .ok (setPhase .empty (discardTxn s)))

/-- START (R121). -/
def execStart (s : State) : Host.Outcome State Fault Refusal :=
  .next (builderStep .start s)

/-- ADDR (R124). -/
def execAddr (dir : Dir) (chk : Bool) (s : State) : Host.Outcome State Fault Refusal :=
  .next (builderStep (.addr dir chk) s)

/-- WRITE_BYTE (R127). -/
def execWriteByte (imm8 : Byte) (chk : Bool) (s : State) : Host.Outcome State Fault Refusal :=
  .next (builderStep (.writeByte imm8 chk) s)

/-- READ_BYTE (R130). -/
def execReadByte (pol : AckPolicy) (s : State) : Host.Outcome State Fault Refusal :=
  .next (builderStep (.readByte pol) s)

/-- STOP (R133). -/
def execStop (s : State) : Host.Outcome State Fault Refusal :=
  .next (builderStep .stop s)

end Sys2Proof.Machine
end

