-- ==== Sys2Proof/Machine/Execute.lean ====
section
/-! DEFINITION. EXECUTE (41_execute.md R150). -/

namespace Sys2Proof.Machine

/-- The transaction run and its code reported (R150, R151). -/
def runAndFinish (s : State) : State := finish (runTxn s).2 (runTxn s).1

/-- EXECUTE's checks (R150): NO_TXN, NO_START, MISSING_STOP, before any bus traffic. -/
def executeTxn (s : State) : State :=
  match s.bph with
  | .closed => malformed .noTxn s
  | .empty => malformed .noStart s
  | .stopped => runAndFinish s
  | _ => malformed .missingStop s

/-- EXECUTE (R150). -/
def execExecute (s : State) : Host.Outcome State Fault Refusal := .next (executeTxn s)

end Sys2Proof.Machine
end

