-- ==== Sys2Proof/Machine/Binary64.lean ====
section
/-! DEFINITION. IEEE 754 binary64 as far as R216 of 42_sequencer.md needs it, on exact fractions: rounding to nearest, ties
to even, and the Celsius transform. Only finite values occur with the spec's literals (R216, log 15, 23). -/

namespace Sys2Proof.Machine

/-- `⌊log2 (n / d)⌋` for positive `n` and `d`. -/
def ratioLog2 (n d : Nat) : Int :=
  let k : Int := (Nat.log2 n : Int) - (Nat.log2 d : Int)
  if d * 2 ^ k.toNat ≤ n * 2 ^ (-k).toNat then k else k - 1

/-- `a / b` rounded to the nearest natural number, ties to even. -/
def divNearestEven (a b : Nat) : Nat :=
  let q := a / b
  let r := a % b
  if 2 * r < b then q
  else if 2 * r = b then q + q % 2
  else q + 1

/-- Exponent of the last place of the binary64 value nearest `n / d`: 52 below the leading bit, but not below −1074. -/
def ulpExp (n d : Nat) : Int := max (ratioLog2 n d - 52) (-1074)

/-- The multiple of `2 ^ ulpExp n d` nearest `n / d`, ties to even. -/
def roundedMant (n d : Nat) : Nat :=
  divNearestEven (n * 2 ^ (-ulpExp n d).toNat) (d * 2 ^ (ulpExp n d).toNat)

/-- `fl` of a nonnegative fraction `n / d`, as a pattern without its sign: the exponent field and fraction field read as one
number, so that a carry out of the fraction goes into the exponent; infinity when the exponent range is left. -/
def roundMag (n d : Nat) : Nat :=
  if n = 0 then 0
  else min ((ulpExp n d + 1074).toNat * 2 ^ 52 + roundedMant n d) (0x7FF * 2 ^ 52)

/-- `fl(num / den)`: the binary64 pattern nearest the fraction, ties to even; 0 gives +0.0 (R216). -/
def flFrac (num : Int) (den : Nat) : BitVec 64 :=
  BitVec.ofNat 64 ((if num < 0 then 2 ^ 63 else 0) + roundMag num.natAbs den)

/-- Exponent field of a pattern. -/
def expField (x : BitVec 64) : Nat := (x.extractLsb' 52 11).toNat

/-- Fraction field of a pattern. -/
def fracField (x : BitVec 64) : Nat := (x.extractLsb' 0 52).toNat

/-- Significand of a finite pattern, in units of the last place. -/
def mantOf (x : BitVec 64) : Nat := if expField x = 0 then fracField x else fracField x + 2 ^ 52

/-- Exponent of the last place of a finite pattern. -/
def lastPlaceOf (x : BitVec 64) : Int := (max (expField x) 1 : Nat) - 1075

/-- Numerator of the exact value of a finite pattern. -/
def flNum (x : BitVec 64) : Int :=
  let m : Int := (mantOf x * 2 ^ (lastPlaceOf x).toNat : Nat)
  if x.getLsbD 63 then -m else m

/-- Denominator of the exact value of a finite pattern. -/
def flDen (x : BitVec 64) : Nat := 2 ^ (-lastPlaceOf x).toNat

/-- `fl(x + y)` for `y` finite and not −0.0; an infinite `x` stays (log 15, 23). -/
def flAdd (x y : BitVec 64) : BitVec 64 :=
  if expField x = 0x7FF then x
  else flFrac (flNum x * flDen y + flNum y * flDen x) (flDen x * flDen y)

/-- `fl(num / y)` for an integer, converted exactly, and a finite nonzero pattern (R216, log 23). -/
def flQuot (num : Int) (y : BitVec 64) : BitVec 64 :=
  flFrac (num * flDen y * (flNum y).sign) (flNum y).natAbs

/-- `fl(fl(raw / divisor) + offset)`: the division first, then the addition (R216). -/
def tempBinary64 (divisor offset : BitVec 64) (raw : BitVec 16) : BitVec 64 :=
  flAdd (flQuot raw.toInt divisor) offset

/-- `tempC(raw)` in the format `TEMP_FMT`, with the literals of the configuration (R216, R9, D22). -/
def celsius (c : Config) (raw : BitVec 16) : BitVec 64 :=
  match c.tempFmt with
  | .binary64 => tempBinary64 c.tempDivisor c.tempOffset raw

end Sys2Proof.Machine
end

