-- ==== Sys2Proof/Machine/Sequencer.lean ====
section
/-! DEFINITION. The four sequencer commands (42_sequencer.md R180–R218). -/

namespace Sys2Proof.Machine

/-- The Busy check (R181): `Busy` and nothing else while a host-built transaction is open. -/
def unlessBusy (f : State → State) (s : State) : State :=
  if s.bph = .closed then f s else finish .busy s

/-- `S.WF <- w`. -/
def setWf (w : Workflow) (s : State) : State := { s with wf := w }

/-- Read slot `k`. -/
def slot (k : Nat) (s : State) : Byte := s.rdata.getD k 0

/-! ### VERIFY_IDENTITY (R192–R194) -/

/-- The identity comparison after an `OK` transaction (R192). -/
def checkIdentity (s : State) : State :=
  if slot 0 s = s.cfg.idExpect then
    finish .ok (if s.wf = .uninitialized then setWf .identityVerified s else s)
  else finish .deviceNotPresent (setWf .uninitialized s)

/-- VERIFY_IDENTITY past the Busy check (R192). -/
def verifyIdentity (s : State) : State :=
  let r := seqTxn (txnId s.cfg) s
  if r.2 = .ok then checkIdentity r.1 else finish r.2 (setWf .uninitialized r.1)

/-- VERIFY_IDENTITY (R192). -/
def execVerifyIdentity (s : State) : Host.Outcome State Fault Refusal := .next (unlessBusy verifyIdentity s)

/-! ### CONFIGURE (R197–R200) -/

/-- The register writes in order, up to the first that fails (R189, R197). -/
def writeRegs : List (Byte × Byte) → State → State × StatusCode
  | [], s => (s, .ok)
  | rv :: l, s =>
    let r := seqTxn (txnCfg s.cfg rv.1 rv.2) s
    if r.2 = .ok then writeRegs l r.1 else r

/-- CONFIGURE past the Busy check (R197, R200). -/
def configure (s : State) : State :=
  if s.wf = .uninitialized then finish .workflowOrder s
  else
    let r := writeRegs (cfgList s.cfg) s
    finish r.2 (setWf (if r.2 = .ok then .configured else .identityVerified) r.1)

/-- CONFIGURE (R197). -/
def execConfigure (s : State) : Host.Outcome State Fault Refusal := .next (unlessBusy configure s)

/-! ### Sample reads (R204–R212) -/

/-- Workflow states that admit a sample read (R191). -/
def readsAdmitted : Workflow → Bool
  | .configured => true
  | .sampling => true
  | _ => false

/-- The raw sample of the two bytes just read (R215). -/
def sample (s : State) : BitVec 16 := be16 (slot 0 s) (slot 1 s)

/-- `ACCEL_X_RAW` and `VALID[1]` written (R204). -/
def storeAccel (s : State) : State := { s with accelXRaw := sample s, accelV := true }

/-- `VALID[1] <- 0` (R204). -/
def dropAccel (s : State) : State := { s with accelV := false }

/-- `TEMP_RAW`, `TEMP_C` and `VALID[2]` written (R210). -/
def storeTemp (s : State) : State :=
  { s with tempRaw := sample s, tempC := celsius s.cfg (sample s), tempV := true }

/-- `VALID[2] <- 0` (R210). -/
def dropTemp (s : State) : State := { s with tempV := false }

/-- A sample read of register `r` past the Busy check (R204, R210): `store` its effect on success, `drop` on failure. -/
def readSample (r : Byte) (store drop : State → State) (s : State) : State :=
  if readsAdmitted s.wf then
    let x := seqTxn (txnRd2 s.cfg r) s
    if x.2 = .ok then finish .ok (setWf .sampling (store x.1)) else finish x.2 (drop x.1)
  else finish .workflowOrder s

/-- READ_ACCEL_X past the Busy check (R204). -/
def readAccelX (s : State) : State := readSample s.cfg.regAccelXoutH storeAccel dropAccel s

/-- READ_TEMP past the Busy check (R210). -/
def readTemp (s : State) : State := readSample s.cfg.regTempOutH storeTemp dropTemp s

/-- READ_ACCEL_X (R204). -/
def execReadAccelX (s : State) : Host.Outcome State Fault Refusal := .next (unlessBusy readAccelX s)

/-- READ_TEMP (R210). -/
def execReadTemp (s : State) : Host.Outcome State Fault Refusal := .next (unlessBusy readTemp s)

end Sys2Proof.Machine
end

