-- ==== Sys2Proof/Machine/Dispatch.lean ====
section
/-! DEFINITION. One arm per command (30_encoding.md R84). -/

namespace Sys2Proof.Machine

open Sys2Proof

def exec (i : Instr) (s : State) : Host.Outcome State Fault Refusal :=
  match i with
  -- builder commands (40_builder.md)
  | .beginTxn => Sys2Proof.Machine.execBegin s
  | .start => Sys2Proof.Machine.execStart s
  | .addr dir chk => Sys2Proof.Machine.execAddr dir chk s
  | .writeByte imm8 chk => Sys2Proof.Machine.execWriteByte imm8 chk s
  | .readByte pol => Sys2Proof.Machine.execReadByte pol s
  | .stop => Sys2Proof.Machine.execStop s
  -- the execute port (41_execute.md)
  | .execute => Sys2Proof.Machine.execExecute s
  -- sequencer commands (42_sequencer.md)
  | .verifyIdentity => Sys2Proof.Machine.execVerifyIdentity s
  | .configure => Sys2Proof.Machine.execConfigure s
  | .readAccelX => Sys2Proof.Machine.execReadAccelX s
  | .readTemp => Sys2Proof.Machine.execReadTemp s

end Sys2Proof.Machine
end

