-- ==== Sys2Proof/Machine/HostPort.lean ====
section
/-! DEFINITION. What the host does besides issuing commands (70_reset_and_hazards.md R272): the register-read port
(10_state.md R34, R35, R40), the reset input (R260), and the finish of an illegal word (30_encoding.md R85). -/

namespace Sys2Proof.Machine

/-- The ROM constants, host registers 0x10–0x1E (R40). -/
def romWord (c : Config) (n : Nat) : Reg64 :=
  match n with
  | 0x10 => c.devAddr.setWidth 64
  | 0x11 => c.regWhoAmI.setWidth 64
  | 0x12 => c.regPwrMgmt.setWidth 64
  | 0x13 => c.regSmplrtDiv.setWidth 64
  | 0x14 => c.regConfig.setWidth 64
  | 0x15 => c.regGyroConfig.setWidth 64
  | 0x16 => c.regAccelConfig.setWidth 64
  | 0x17 => c.regAccelXoutH.setWidth 64
  | 0x18 => c.regTempOutH.setWidth 64
  | 0x19 => c.idExpect.setWidth 64
  | 0x1A => c.cfgPwrVal.setWidth 64
  | 0x1B => c.cfgSmplrtVal.setWidth 64
  | 0x1C => c.cfgDlpfVal.setWidth 64
  | 0x1D => c.cfgGyroVal.setWidth 64
  | 0x1E => c.cfgAccelVal.setWidth 64
  | _ => 0

/-- `RDATA[n − 0x40]` for the numbers `0x40 + k`, `k < RD_CAP` (R35). -/
def slotWord (s : State) (n : Nat) : Reg64 :=
  if 0x40 ≤ n ∧ n < 0x40 + s.cfg.rdCap then (s.rdata.getD (n - 0x40) 0).setWidth 64 else 0

/-- `reg(n)` (R34, R35): zero-extended to 64 bits; an unassigned number reads 0. -/
def readPort (s : State) (n : Byte) : Reg64 :=
  match n.toNat with
  | 0x00 => statusWord s
  | 0x01 => stickyWord s
  | 0x02 => wfWord s
  | 0x03 => bstateWord s
  | 0x04 => validWord s
  | 0x05 => rdCountWord s
  | 0x06 => s.accelXRaw.setWidth 64
  | 0x07 => s.tempRaw.setWidth 64
  | 0x08 => s.tempC
  | k => if k < 0x40 then romWord s.cfg k else slotWord s k

/-- A host read (R34): no effect on the block; the value goes to the host's own record (log 2). -/
def hostRead (n : Byte) (s : State) : State := { s with readLog := s.readLog ++ [(n, readPort s n)] }

/-- The reset input (R41, R260): every piece of block state to its reset value; ROM and environment kept. -/
def blockReset (s : State) : State :=
  { State.reset with
    cfg := s.cfg
    buf := List.replicate s.cfg.txnCap .start
    rdata := List.replicate s.cfg.rdCap 0
    host := s.host
    readLog := s.readLog
    answers := s.answers
    draws := s.draws }

/-- An illegal word: `finish(IllegalCommand)` and no other change (R85, R86). -/
def illegalCommand (s : State) : State := finish .illegalCommand s

end Sys2Proof.Machine
end

