-- ==== Sys2Proof/Machine/Step.lean ====
section
/-! DEFINITION. One step: one host input taken whole (00_scope.md R6, R7; 20_memory.md R70; 70_reset_and_hazards.md R260,
R261), and where the host places the next command word (log 1). -/

namespace Sys2Proof.Machine

/-- One step. With no input pending the block waits (R261). -/
def step (s : State) : Host.Outcome State Fault Refusal :=
  match nextInput s with
  | none => .next s
  | some (.command w) =>
    match decode w with
    | .command i => exec i (popInput s)
    | .illegal _ => .next (illegalCommand (popInput s))
  | some (.read n) => .next (hostRead n (popInput s))
  | some .reset => .next (blockReset (popInput s))

/-- The state with this command word as the host's next input. -/
def State.withFetchWord (s : State) (nbits w : Nat) : State := pushWord (tableWord nbits w) s

end Sys2Proof.Machine
end

