-- ==== Sys2Proof/Machine/Assembler.lean ====
section
/-! DEFINITION. The assembler of 30_encoding.md R88 and R89: one line of text to the commands it stands for, and the macros
WRREG, RDREG and PROBE (log 18). A line is a list of characters. -/

namespace Sys2Proof.Machine

/-! ### The macros (R89) -/

/-- `WRREG r, v`: a register write (R61). -/
def wrreg (r v : Byte) : List Instr :=
  [.beginTxn, .start, .addr .write true, .writeByte r true, .writeByte v true, .stop, .execute]

/-- The body of `RDREG r, n`, for `n ≥ 1`: a register read (R61). -/
def rdregBody (r : Byte) (n : Nat) : List Instr :=
  [.beginTxn, .start, .addr .write true, .writeByte r true, .start, .addr .read true] ++
    List.replicate (n - 1) (.readByte .ack) ++ [.readByte .nack, .stop, .execute]

/-- `RDREG r, n`, refused outside `1 ≤ n ≤ RD_CAP` and `n + 6 ≤ TXN_CAP`. -/
def rdreg (c : Config) (r : Byte) (n : Nat) : Option (List Instr) :=
  if 1 ≤ n ∧ n ≤ c.rdCap ∧ n + 6 ≤ c.txnCap then some (rdregBody r n) else none

/-- `PROBE`: an address-only transaction. -/
def probe : List Instr := [.beginTxn, .start, .addr .write true, .stop, .execute]

/-! ### Reading a line (R88) -/

/-- A token: characters without white space, upper case. -/
abbrev Token := List Char

/-- `;` starts a comment; mnemonics and keywords are case-insensitive (R88). DESIGN CHOICE (log 18): the whole line is put in upper
case, numbers with it, so either case of `0x` and of a hexadecimal digit is accepted. -/
def stripLine (line : List Char) : List Char := (line.takeWhile (· ≠ ';')).map Char.toUpper

/-- A token that is not empty, as a list. -/
def flushToken (cur : Token) : List Token := if cur = [] then [] else [cur]

/-- The tokens of a line, a comma a token of its own; `cur` the token being read. -/
def tokensFrom (cur : Token) : List Char → List Token
  | [] => flushToken cur
  | c :: cs =>
    if c.isWhitespace then flushToken cur ++ tokensFrom [] cs
    else if c = ',' then flushToken cur ++ [','] :: tokensFrom [] cs
    else tokensFrom (cur ++ [c]) cs

/-- The value of a digit below `base`, `A`–`F` above 9. -/
def digitVal (base : Nat) (c : Char) : Option Nat :=
  let v := if '0' ≤ c ∧ c ≤ '9' then c.toNat - '0'.toNat
    else if 'A' ≤ c ∧ c ≤ 'F' then c.toNat - 'A'.toNat + 10
    else base
  if v < base then some v else none

/-- A string of digits in `base`, `acc` the value of those before it. -/
def digitsVal (base acc : Nat) : List Char → Option Nat
  | [] => some acc
  | c :: cs =>
    match digitVal base c with
    | none => none
    | some v => digitsVal base (acc * base + v) cs

/-- A number: decimal, or `0x` and hexadecimal (R88); the line is in upper case here, so `0X` is accepted too (DESIGN CHOICE, log 18). -/
def numberOf : Token → Option Nat
  | [] => none
  | '0' :: 'X' :: [] => none
  | '0' :: 'X' :: ds => digitsVal 16 0 ds
  | ds => digitsVal 10 0 ds

/-- A byte operand; a number outside 0..255 is refused. -/
def byteOf (t : Token) : Option Byte :=
  match numberOf t with
  | none => none
  | some n => if n < 256 then some (BitVec.ofNat 8 n) else none

/-- `[, CHK|NOCHK]`, default CHK. -/
def chkOf : List Token → Option Bool
  | [] => some true
  | [comma, k] =>
    if comma = [','] then
      if k = "CHK".toList then some true else if k = "NOCHK".toList then some false else none
    else none
  | _ => none

/-- `ADDR W|R [, CHK|NOCHK]`. -/
def addrOperands : List Token → Option Instr
  | d :: l =>
    match chkOf l with
    | none => none
    | some chk =>
      if d = ['W'] then some (.addr .write chk) else if d = ['R'] then some (.addr .read chk) else none
  | [] => none

/-- `WRITE_BYTE imm8 [, CHK|NOCHK]`. -/
def writeOperands : List Token → Option Instr
  | b :: l =>
    match byteOf b, chkOf l with
    | some v, some chk => some (.writeByte v chk)
    | _, _ => none
  | [] => none

/-- `READ_BYTE ACK|NACK`, no default. -/
def readOperands : List Token → Option Instr
  | [k] =>
    if k = "ACK".toList then some (.readByte .ack)
    else if k = "NACK".toList then some (.readByte .nack) else none
  | _ => none

/-- Two numbers with a comma between them. -/
def pairOperands : List Token → Option (Nat × Nat)
  | [a, comma, b] =>
    if comma = [','] then
      match numberOf a, numberOf b with
      | some x, some y => some (x, y)
      | _, _ => none
    else none
  | _ => none

/-- The operands of WRREG. -/
def wrregOperands (l : List Token) : Option (List Instr) :=
  match pairOperands l with
  | some (r, v) => if r < 256 ∧ v < 256 then some (wrreg (BitVec.ofNat 8 r) (BitVec.ofNat 8 v)) else none
  | none => none

/-- The operands of RDREG. -/
def rdregOperands (c : Config) (l : List Token) : Option (List Instr) :=
  match pairOperands l with
  | some (r, n) => if r < 256 then rdreg c (BitVec.ofNat 8 r) n else none
  | none => none

/-- The commands and macros without operands, by name (R88, R89). -/
def bareLines : List (String × List Instr) :=
  [("BEGIN", [.beginTxn]), ("START", [.start]), ("STOP", [.stop]), ("EXECUTE", [.execute]),
   ("VERIFY_IDENTITY", [.verifyIdentity]), ("CONFIGURE", [.configure]),
   ("READ_ACCEL_X", [.readAccelX]), ("READ_TEMP", [.readTemp]), ("PROBE", probe)]

/-- The commands of a name without operands. -/
def bareLine (m : Token) : List (String × List Instr) → Option (List Instr)
  | [] => none
  | (k, is) :: l => if m = k.toList then some is else bareLine m l

/-- The commands a line's tokens stand for; none where the assembler refuses. -/
def assembleTokens (c : Config) : List Token → Option (List Instr)
  | [] => some []
  | [m] => bareLine m bareLines
  | m :: l =>
    if m = "ADDR".toList then (addrOperands l).map fun i => [i]
    else if m = "WRITE_BYTE".toList then (writeOperands l).map fun i => [i]
    else if m = "READ_BYTE".toList then (readOperands l).map fun i => [i]
    else if m = "WRREG".toList then wrregOperands l
    else if m = "RDREG".toList then rdregOperands c l
    else none

/-- One line assembled (R88); an empty line or a comment gives no command. -/
def assembleLine (c : Config) (line : List Char) : Option (List Instr) :=
  assembleTokens c (tokensFrom [] (stripLine line))

/-! ### Writing a line -/

/-- A hexadecimal digit. -/
def hexDigit (n : Nat) : Char := "0123456789ABCDEF".toList.getD n '0'

/-- A byte as `0x` and two digits. -/
def byteText (b : Byte) : List Char := '0' :: 'x' :: [hexDigit (b.toNat / 16), hexDigit (b.toNat % 16)]

/-- `, CHK` or `, NOCHK`. -/
def chkText (chk : Bool) : List Char := if chk then ", CHK".toList else ", NOCHK".toList

/-- A command in the assembler's form (R88). -/
def asmText : Instr → List Char
  | .beginTxn => "BEGIN".toList
  | .start => "START".toList
  | .addr .write chk => "ADDR W".toList ++ chkText chk
  | .addr .read chk => "ADDR R".toList ++ chkText chk
  | .writeByte imm8 chk => "WRITE_BYTE ".toList ++ byteText imm8 ++ chkText chk
  | .readByte .ack => "READ_BYTE ACK".toList
  | .readByte .nack => "READ_BYTE NACK".toList
  | .stop => "STOP".toList
  | .execute => "EXECUTE".toList
  | .verifyIdentity => "VERIFY_IDENTITY".toList
  | .configure => "CONFIGURE".toList
  | .readAccelX => "READ_ACCEL_X".toList
  | .readTemp => "READ_TEMP".toList

end Sys2Proof.Machine
end

