-- ==== Sys2Proof/Safety.lean ====
section
/-! DEFINITION. What claims about the block are stated in: the invariants of a reachable state, what the device has received
of a transaction, and runs of commands. -/

namespace Sys2Proof.Machine

/-! ### The builder invariant (R26–R28, R115) -/

/-- The phase an element leads to, read off the "last element" and "next element admitted" columns of R26. -/
def phaseStep : Phase → Element → Option Phase
  | .empty, .start => some .afterStart
  | .afterStart, .wr b _ => some (if b.getLsbD 0 then .rphaseAddr else .wphase)
  | .wphase, .wr _ _ => some .wphase
  | .wphase, .start => some .afterStart
  | .wphase, .stop => some .stopped
  | .rphaseAddr, .rd pol => some (if pol = .ack then .rphaseMore else .rphaseDone)
  | .rphaseMore, .rd pol => some (if pol = .ack then .rphaseMore else .rphaseDone)
  | .rphaseDone, .start => some .afterStart
  | .rphaseDone, .stop => some .stopped
  | _, _ => none

/-- The phase a list of elements leads to from a phase; none where an element is not admitted. -/
def scan : Phase → Txn → Option Phase
  | p, [] => some p
  | p, e :: T => (phaseStep p e).bind fun q => scan q T

/-- `BPH` says what the open transaction ends on; a closed builder holds none (R26). -/
def PhaseOk (s : State) : Prop :=
  if s.bph = .closed then s.bn = 0 else scan .empty (openTxn s) = some s.bph

/-- What holds of every state the block can be in. -/
structure BlockInv (s : State) : Prop where
  /-- The configuration is one the block can have (R8, R9). -/
  cfgWf : s.cfg.wf = true
  /-- `BUF` has `TXN_CAP` entries (R27). -/
  bufLength : s.buf.length = s.cfg.txnCap
  /-- `RDATA` has `RD_CAP` slots (R30). -/
  rdataLength : s.rdata.length = s.cfg.rdCap
  /-- `BN` is 0..TXN_CAP (R27). -/
  bnLe : s.bn ≤ s.cfg.txnCap
  /-- `BNR` is 0..RD_CAP (R28). -/
  bnrLe : s.bnr ≤ s.cfg.rdCap
  /-- `BNR` is the number of RD elements (R28). -/
  bnrCount : s.bnr = countReads (openTxn s)
  /-- `BPH` fits the open transaction (R26). -/
  phase : PhaseOk s
  /-- `RD_COUNT` is 0..RD_CAP (R30). -/
  rdCountLe : s.rdCount ≤ s.cfg.rdCap
  /-- `RD_COUNT` is 0 while the read data is not valid (R30, R31). -/
  notValid : s.rdataV = false → s.rdCount = 0
  /-- `MREASON` is 0 exactly for a code other than `Malformed` (R22). -/
  reason : s.mreason = .none ↔ s.code ≠ .malformed
  /-- `STICKY[0]` is 0 (R25). -/
  stickyZero : s.sticky.getLsbD 0 = false
  /-- A failure just reported is recorded in `STICKY` (R25). -/
  stickyCode : s.code ≠ .ok → s.sticky.getLsbD (codeNum s.code) = true
  /-- Every transaction handed to the transport was well-formed and its answer admissible (R37, R115, R153). -/
  logWf : ∀ e ∈ s.busLog, txnWf s.cfg e.1 = true ∧ admissible e.1 e.2 = true

/-! ### The workflow's history on the bus (R191, R264, R265, R269) -/

/-- The identity transaction answered with the expected byte (R192). -/
def identityEntry (c : Config) : BusEntry := (txnId c, .ok [c.idExpect])

/-- The five configuration writes, each answered `Ok` (R197, R198). -/
def configEntries (c : Config) : List BusEntry := (cfgList c).map fun rv => (txnCfg c rv.1 rv.2, .ok [])

/-- Past `Uninitialized`, the log holds a successful identity check. -/
def IdentitySeen (s : State) : Prop :=
  s.wf ≠ .uninitialized → identityEntry s.cfg ∈ s.busLog

/-- In `Configured` or `Sampling`, the log holds the five writes one after the other, all after a successful identity check. -/
def ConfigSeen (s : State) : Prop :=
  s.wf = .configured ∨ s.wf = .sampling →
    ∃ before after, s.busLog = before ++ configEntries s.cfg ++ after ∧ identityEntry s.cfg ∈ before

/-- A valid acceleration is the decoded bytes of an answered acceleration transaction (R31, R32). -/
def AccelSeen (s : State) : Prop :=
  s.accelV = true →
    ∃ hi lo, (txnRd2 s.cfg s.cfg.regAccelXoutH, Answer.ok [hi, lo]) ∈ s.busLog ∧ s.accelXRaw = be16 hi lo

/-- A valid temperature is the decoded and converted bytes of an answered temperature transaction (R31, R33). -/
def TempSeen (s : State) : Prop :=
  s.tempV = true →
    ∃ hi lo, (txnRd2 s.cfg s.cfg.regTempOutH, Answer.ok [hi, lo]) ∈ s.busLog ∧
      s.tempRaw = be16 hi lo ∧ s.tempC = celsius s.cfg s.tempRaw

/-- The four histories together, beside the invariant their proofs need. -/
structure History (s : State) : Prop where
  inv : BlockInv s
  identity : IdentitySeen s
  config : ConfigSeen s
  accel : AccelSeen s
  temp : TempSeen s

/-! ### The device's side of a transaction (R154, R156, log 21) -/

/-- `p` may be what the device has received of `T` when the transport answers `out`: all of it after `Ok`, the elements
`T[0..i]` after `Nack(i)`, an unknown prefix after `Timeout` (R156). -/
def Received (T : Txn) (out : Answer) (p : Txn) : Prop :=
  match out with
  | .ok _ => p = T
  | .nack i => p = T.take (i + 1)
  | .timeout => p <+: T

/-! ### The two finishes of a builder command (R112, R114) -/

/-- The command finishes `Malformed` with reason `r`: the open transaction is discarded and nothing else changes (R112). -/
def Refuses (r : MReason) (i : Instr) (s : State) : Prop :=
  exec i s = .next
    { s with bph := .closed, bn := 0, bnr := 0, code := .malformed, mreason := r, sticky := s.sticky ||| 0x10 }

/-- The command appends `e`, of which `reads` are reads, goes to phase `p` and finishes `OK`; nothing else changes (R111, R114). -/
def Appends (e : Element) (reads : Nat) (p : Phase) (i : Instr) (s : State) : Prop :=
  exec i s = .next
    { s with
      buf := s.buf.set s.bn e
      bn := s.bn + 1
      bnr := s.bnr + reads
      bph := p
      code := .ok
      mreason := .none }

/-! ### Runs of commands -/

/-- Commands executed one after the other (R70), stopping where one does not answer a next state. -/
def runCmds : List Instr → State → Host.Outcome State Fault Refusal
  | [], s => .next s
  | i :: l, s =>
    match exec i s with
    | .next t => runCmds l t
    | .fault r => .fault r
    | .refused r => .refused r

/-- A builder command (R110). -/
def isBuilder : Instr → Bool
  | .beginTxn => true
  | .start => true
  | .addr _ _ => true
  | .writeByte _ _ => true
  | .readByte _ => true
  | .stop => true
  | _ => false

/-- A sequencer command (R180). -/
def isSequencer : Instr → Bool
  | .verifyIdentity => true
  | .configure => true
  | .readAccelX => true
  | .readTemp => true
  | _ => false

end Sys2Proof.Machine
end

