-- ==== Sys2Proof/Certificates/Slice0/Obligations.lean ====
section
/-! DEFINITION. The statements for the provers. Each docstring names the rules of spec/ it formalises; a statement that cites
a log entry rests on the model's own choice there. -/

open Sys2Proof Sys2Proof.Machine

/-! ### Encoding (30_encoding.md) -/

/-- R93: every word the rule lists decodes to the command it stands for, and its illegal examples to none. -/
def Obligations.SpecWordsDecode : Prop :=
  decode 0x1000 = .command .beginTxn ∧ decode 0x2000 = .command .start ∧ decode 0x6000 = .command .stop ∧
  decode 0x7000 = .command .execute ∧ decode 0x8000 = .command .verifyIdentity ∧ decode 0x9000 = .command .configure ∧
  decode 0xA000 = .command .readAccelX ∧ decode 0xB000 = .command .readTemp ∧
  decode 0x3100 = .command (.addr .write true) ∧ decode 0x3101 = .command (.addr .read true) ∧
  decode 0x3000 = .command (.addr .write false) ∧ decode 0x3001 = .command (.addr .read false) ∧
  decode 0x4175 = .command (.writeByte 0x75 true) ∧ decode 0x4000 = .command (.writeByte 0x00 false) ∧
  decode 0x41FF = .command (.writeByte 0xFF true) ∧
  decode 0x5000 = .command (.readByte .ack) ∧ decode 0x5100 = .command (.readByte .nack) ∧
  ∀ w ∈ [0x0000#16, 0x1001#16, 0x3102#16, 0x4275#16, 0x5101#16, 0xC000#16, 0xFFFF#16], commandOf (decode w) = none

/-- R82, R84, R85: decoding the word of any command gives that command back, every operand at every value. -/
def Obligations.DecodeOfEncode : Prop :=
  ∀ i : Instr, i.wf = true → decode (encode i) = .command i

/-- R85, R86: a word that decodes to a command is that command's one word, and a word that decodes to none is no command's. -/
def Obligations.EncodeOfDecode : Prop :=
  ∀ w : CmdWord,
    (∀ i, decode w = .command i → encode i = w) ∧ (∀ why, decode w = .illegal why → ∀ i, encode i ≠ w)

/-- R90, R91: the 11-bit form of each element, the element each builder command appends, the forms of ADDR with the default
`DEV_ADDR`, and that no two elements share a form. -/
def Obligations.ElementForms : Prop :=
  elementBits .start = 0x000 ∧ elementBits .stop = 0x600 ∧
  elementBits (.rd .ack) = 0x400 ∧ elementBits (.rd .nack) = 0x500 ∧
  (∀ b : Byte, elementBits (.wr b false) = 0x200#11 ||| b.setWidth 11) ∧
  (∀ b : Byte, elementBits (.wr b true) = 0x300#11 ||| b.setWidth 11) ∧
  (∀ (c : Config) (dir : Dir) (chk : Bool), elementBits (elementOf c (.addr dir chk)) =
    0x200#11 ||| (if chk then 0x100#11 else 0#11) ||| (c.devAddr.setWidth 11 <<< 1) ||| (if dir = .read then 1#11 else 0#11)) ∧
  (∀ (c : Config) (b : Byte) (chk : Bool) (pol : AckPolicy), elementOf c .start = .start ∧ elementOf c .stop = .stop ∧
    elementOf c (.writeByte b chk) = .wr b chk ∧ elementOf c (.readByte pol) = .rd pol) ∧
  (∀ c : Config, c.devAddr = 0x68 →
    elementBits (elementOf c (.addr .write true)) = 0x3D0 ∧ elementBits (elementOf c (.addr .read true)) = 0x3D1 ∧
    elementBits (elementOf c (.addr .write false)) = 0x2D0 ∧ elementBits (elementOf c (.addr .read false)) = 0x2D1) ∧
  ∀ e f : Element, elementBits e = elementBits f → e = f

/-- R88 with log 18: a command written in the assembler's form assembles to that command alone. -/
def Obligations.AssemblerReadsBack : Prop :=
  ∀ (c : Config) (i : Instr), assembleLine c (asmText i) = some [i]

/-! ### Configuration -/

/-- R8, R9, R40 (carried in State: log 3; the literals: log 23): the values of the default configuration beside the ROM's, and what a
configuration of the block must satisfy, the widths the spec fixes, the bounds of the OPEN capacities and literals that are
numbers. -/
def Obligations.ParametersOfTheBlock : Prop :=
  (Config.default.regAddrW = 8 ∧ Config.default.devAddrW = 7 ∧ Config.default.sampleW = 16 ∧ Config.default.txnCap = 16 ∧
    Config.default.rdCap = 8 ∧ Config.default.timeout = 1000 ∧ Config.default.tempFmt = .binary64 ∧
    Config.default.tempDivisor = 0x4075400000000000 ∧ Config.default.tempOffset = 0x404243D70A3D70A4) ∧
  ∀ c : Config, c.wf = true ↔
    c.regAddrW = 8 ∧ c.devAddrW = 7 ∧ c.sampleW = 16 ∧ 8 ≤ c.txnCap ∧ c.txnCap ≤ 255 ∧ 2 ≤ c.rdCap ∧ c.rdCap ≤ 64 ∧
    expField c.tempDivisor ≠ 0x7FF ∧ flNum c.tempDivisor ≠ 0 ∧
    expField c.tempOffset ≠ 0x7FF ∧ c.tempOffset ≠ 0x8000000000000000

/-! ### Reset, host inputs and the step -/

/-- R41: the reset value of every piece of block state. -/
def Obligations.ResetValues : Prop :=
  State.reset.code = .ok ∧ State.reset.mreason = .none ∧ State.reset.sticky = 0 ∧ State.reset.bph = .closed ∧
  State.reset.bn = 0 ∧ State.reset.bnr = 0 ∧ (∀ e ∈ State.reset.buf, elementBits e = 0) ∧
  State.reset.wf = .uninitialized ∧ (∀ b ∈ State.reset.rdata, b = 0) ∧ State.reset.rdCount = 0 ∧
  State.reset.rdataV = false ∧ State.reset.accelV = false ∧ State.reset.tempV = false ∧
  State.reset.accelXRaw = 0 ∧ State.reset.tempRaw = 0 ∧ State.reset.tempC = 0x0000000000000000 ∧ State.reset.busLog = []

/-- R260, R41: the reset input, taken between commands, sets every piece of block state to its reset value, leaves the ROM as it
is, and makes no transport call. MODEL'S CHOICE: that the input is a step of its own (log 2), that the parameters stay with the
ROM (log 3), and that `host`, `readLog`, `answers` and `draws` are kept (log 6). -/
def Obligations.ResetInput : Prop :=
  ∀ (s : State) (rest : List HostInput), s.host = .reset :: rest →
    step s = .next
      { cfg := s.cfg, code := .ok, mreason := .none, sticky := 0, bph := .closed
        buf := List.replicate s.cfg.txnCap .start, bn := 0, bnr := 0, wf := .uninitialized
        rdata := List.replicate s.cfg.rdCap 0, rdCount := 0, rdataV := false, accelV := false, tempV := false
        accelXRaw := 0, tempRaw := 0, tempC := 0, busLog := []
        host := rest, readLog := s.readLog, answers := s.answers, draws := s.draws }

/-- R6, R70, R80 (the place of the word: log 1): a step whose next input is a word that decodes to a command is that command
executed with the input taken. -/
def Obligations.StepRunsDecodedCommand : Prop :=
  ∀ (s : State) (w : CmdWord) (rest : List HostInput) (i : Instr),
    s.host = .command w :: rest → decode w = .command i → step s = exec i { s with host := rest }

/-- R85, R86: an illegal word finishes `IllegalCommand` and changes nothing else. -/
def Obligations.IllegalWordOnlyReports : Prop :=
  ∀ (s : State) (w : CmdWord) (rest : List HostInput),
    s.host = .command w :: rest → (∀ i, encode i ≠ w) →
      step s = .next
        { s with host := rest, code := .illegalCommand, mreason := .none, sticky := s.sticky ||| 0x80 }

/-- R34, R36 (the record of the value: log 2): a host read changes no state of the block and hands the host the register's
value, the same at a second read. -/
def Obligations.HostReadHasNoSideEffect : Prop :=
  ∀ (s : State) (n : Byte) (rest : List HostInput), s.host = .read n :: rest →
    ∃ t, step s = .next t ∧ t = { s with host := rest, readLog := s.readLog ++ [(n, readPort s n)] } ∧
      ∀ m, readPort t m = readPort s m

/-- R34, R35 with R22–R26, R29, R31–R33: the number of every status code, malformed reason, builder phase and workflow state, and
what the read port returns for each assigned number below 0x10 (as numbers, from the fields' places), for the read slots, and 0
for every unassigned number. -/
def Obligations.ReadPortMap : Prop :=
  (codeNum .ok = 0 ∧ codeNum .deviceNotPresent = 1 ∧ codeNum .busTimeout = 2 ∧ codeNum .busNack = 3 ∧
    codeNum .malformed = 4 ∧ codeNum .workflowOrder = 5 ∧ codeNum .busy = 6 ∧ codeNum .illegalCommand = 7) ∧
  (reasonNum .none = 0 ∧ reasonNum .noTxn = 1 ∧ reasonNum .noStart = 2 ∧ reasonNum .addrExpected = 3 ∧
    reasonNum .dirMismatch = 4 ∧ reasonNum .ackOnLast = 5 ∧ reasonNum .readAfterNack = 6 ∧ reasonNum .afterStop = 7 ∧
    reasonNum .missingStop = 8 ∧ reasonNum .capacity = 9 ∧ reasonNum .addrMisplaced = 10 ∧ reasonNum .emptyRead = 11) ∧
  (phaseNum .closed = 0 ∧ phaseNum .empty = 1 ∧ phaseNum .afterStart = 2 ∧ phaseNum .wphase = 3 ∧
    phaseNum .rphaseAddr = 4 ∧ phaseNum .rphaseMore = 5 ∧ phaseNum .rphaseDone = 6 ∧ phaseNum .stopped = 7) ∧
  (workflowNum .uninitialized = 0 ∧ workflowNum .identityVerified = 1 ∧ workflowNum .configured = 2 ∧
    workflowNum .sampling = 3) ∧
  ∀ s : State,
    (readPort s 0x00).toNat = codeNum s.code + 16 * reasonNum s.mreason ∧
    (readPort s 0x01).toNat = s.sticky.toNat - s.sticky.toNat % 2 ∧
    (readPort s 0x02).toNat = workflowNum s.wf ∧
    (s.bn < 256 → s.bnr < 256 → (readPort s 0x03).toNat = phaseNum s.bph + 256 * s.bn + 65536 * s.bnr) ∧
    (readPort s 0x04).toNat = s.rdataV.toNat + 2 * s.accelV.toNat + 4 * s.tempV.toNat ∧
    (s.rdCount < 256 → (readPort s 0x05).toNat = s.rdCount) ∧
    (readPort s 0x06).toNat = s.accelXRaw.toNat ∧
    (readPort s 0x07).toNat = s.tempRaw.toNat ∧
    readPort s 0x08 = s.tempC ∧
    (∀ (n : Byte) (b : Byte), 0x40 ≤ n.toNat → n.toNat < 0x40 + s.cfg.rdCap → s.rdata[n.toNat - 0x40]? = some b →
      (readPort s n).toNat = b.toNat) ∧
    (∀ n : Byte, (0x08 < n.toNat ∧ n.toNat < 0x10) ∨ (0x1E < n.toNat ∧ n.toNat < 0x40) ∨ 0x40 + s.cfg.rdCap ≤ n.toNat →
      readPort s n = 0)

/-- R35, R40: the ROM constants behind host registers 0x10–0x1E, and the default ROM (its device and register addresses are
the spec's defaults from general knowledge, log 4). -/
def Obligations.RomReadBack : Prop :=
  (∀ s : State,
    [0x10#8, 0x11#8, 0x12#8, 0x13#8, 0x14#8, 0x15#8, 0x16#8, 0x17#8, 0x18#8, 0x19#8, 0x1A#8, 0x1B#8, 0x1C#8, 0x1D#8,
      0x1E#8].map (fun n => (readPort s n).toNat) =
    s.cfg.devAddr.toNat ::
      [s.cfg.regWhoAmI, s.cfg.regPwrMgmt, s.cfg.regSmplrtDiv, s.cfg.regConfig, s.cfg.regGyroConfig,
        s.cfg.regAccelConfig, s.cfg.regAccelXoutH, s.cfg.regTempOutH, s.cfg.idExpect, s.cfg.cfgPwrVal,
        s.cfg.cfgSmplrtVal, s.cfg.cfgDlpfVal, s.cfg.cfgGyroVal, s.cfg.cfgAccelVal].map (fun b => b.toNat)) ∧
  [0x10#8, 0x11#8, 0x12#8, 0x13#8, 0x14#8, 0x15#8, 0x16#8, 0x17#8, 0x18#8, 0x19#8, 0x1A#8, 0x1B#8, 0x1C#8, 0x1D#8,
    0x1E#8].map (fun n => (readPort State.reset n).toNat) =
    [0x68, 0x75, 0x6B, 0x19, 0x1A, 0x1B, 0x1C, 0x3B, 0x41, 0x68, 0x00, 0x07, 0x00, 0x00, 0x00]

/-- R261 with log 1: with no host input pending the block waits, and nothing changes. -/
def Obligations.WaitsForACommand : Prop :=
  ∀ s : State, s.host = [] → step s = .next s

/-- R39, R20: no step, not even the reset input, changes the ROM (or the parameters carried with it, log 3). -/
def Obligations.RomIsConstant : Prop :=
  ∀ s t : State, step s = .next t → t.cfg = s.cfg

/-- R230, R234: every command, and every step, ends in a next state; nothing stops the block. -/
def Obligations.EveryStepCompletes : Prop :=
  (∀ (i : Instr) (s : State), ∃ t, exec i s = .next t) ∧ ∀ s : State, ∃ t, step s = .next t

/-! ### Builder commands (40_builder.md) -/

/-- R118: BEGIN from any state opens a new empty transaction, never fails, and changes nothing else. -/
def Obligations.BeginOpens : Prop :=
  encode .beginTxn = 0x1000 ∧
  ∀ s : State, exec .beginTxn s = .next { s with bph := .empty, bn := 0, bnr := 0, code := .ok, mreason := .none }

/-- R121: START, first and repeated, and each of its refusals. -/
def Obligations.StartCommand : Prop :=
  encode .start = 0x2000 ∧ elementBits .start = 0x000 ∧
  ∀ s : State,
    (s.bph = .empty ∨ s.bph = .wphase ∨ s.bph = .rphaseDone → s.bn < s.cfg.txnCap →
      Appends .start 0 .afterStart .start s) ∧
    (s.bph = .empty ∨ s.bph = .wphase ∨ s.bph = .rphaseDone → s.bn = s.cfg.txnCap → Refuses .capacity .start s) ∧
    (s.bph = .closed → Refuses .noTxn .start s) ∧
    (s.bph = .afterStart → Refuses .addrExpected .start s) ∧
    (s.bph = .rphaseAddr → Refuses .emptyRead .start s) ∧
    (s.bph = .rphaseMore → Refuses .ackOnLast .start s) ∧
    (s.bph = .stopped → Refuses .afterStop .start s)

/-- R124: ADDR appends the address+direction byte right after a START and opens a write or a read phase; each refusal. -/
def Obligations.AddrCommand : Prop :=
  (∀ dir chk, encode (.addr dir chk) =
    0x3000#16 ||| (if chk then 0x100#16 else 0#16) ||| (if dir = .read then 1#16 else 0#16)) ∧
  ∀ (s : State) (dir : Dir) (chk : Bool),
    (s.bph = .afterStart → s.bn < s.cfg.txnCap →
      Appends (.wr (BitVec.ofNat 8 (s.cfg.devAddr.toNat * 2 + if dir = .read then 1 else 0)) chk) 0
        (if dir = .read then .rphaseAddr else .wphase) (.addr dir chk) s) ∧
    (s.bph = .afterStart → s.bn = s.cfg.txnCap → Refuses .capacity (.addr dir chk) s) ∧
    (s.bph = .closed → Refuses .noTxn (.addr dir chk) s) ∧
    (s.bph = .empty → Refuses .noStart (.addr dir chk) s) ∧
    (s.bph = .wphase ∨ s.bph = .rphaseAddr ∨ s.bph = .rphaseMore ∨ s.bph = .rphaseDone →
      Refuses .addrMisplaced (.addr dir chk) s) ∧
    (s.bph = .stopped → Refuses .afterStop (.addr dir chk) s)

/-- R127: WRITE_BYTE is the address byte right after a START, its bit 0 the direction, a data byte in a write phase; each
refusal. -/
def Obligations.WriteByteCommand : Prop :=
  (∀ b chk, encode (.writeByte b chk) = 0x4000#16 ||| (if chk then 0x100#16 else 0#16) ||| b.setWidth 16) ∧
  ∀ (s : State) (b : Byte) (chk : Bool),
    (s.bph = .afterStart → s.bn < s.cfg.txnCap →
      Appends (.wr b chk) 0 (if b.getLsbD 0 then .rphaseAddr else .wphase) (.writeByte b chk) s) ∧
    (s.bph = .wphase → s.bn < s.cfg.txnCap → Appends (.wr b chk) 0 .wphase (.writeByte b chk) s) ∧
    (s.bph = .afterStart ∨ s.bph = .wphase → s.bn = s.cfg.txnCap → Refuses .capacity (.writeByte b chk) s) ∧
    (s.bph = .closed → Refuses .noTxn (.writeByte b chk) s) ∧
    (s.bph = .empty → Refuses .noStart (.writeByte b chk) s) ∧
    (s.bph = .rphaseAddr ∨ s.bph = .rphaseMore ∨ s.bph = .rphaseDone → Refuses .dirMismatch (.writeByte b chk) s) ∧
    (s.bph = .stopped → Refuses .afterStop (.writeByte b chk) s)

/-- R130: READ_BYTE with either policy, its phase changes, and each refusal. -/
def Obligations.ReadByteCommand : Prop :=
  encode (.readByte .ack) = 0x5000 ∧ encode (.readByte .nack) = 0x5100 ∧
  ∀ (s : State) (pol : AckPolicy),
    (s.bph = .rphaseAddr ∨ s.bph = .rphaseMore → s.bn < s.cfg.txnCap → s.bnr < s.cfg.rdCap →
      Appends (.rd pol) 1 (if pol = .ack then .rphaseMore else .rphaseDone) (.readByte pol) s) ∧
    (s.bph = .rphaseAddr ∨ s.bph = .rphaseMore → s.bn = s.cfg.txnCap ∨ s.bnr = s.cfg.rdCap →
      Refuses .capacity (.readByte pol) s) ∧
    (s.bph = .closed → Refuses .noTxn (.readByte pol) s) ∧
    (s.bph = .empty → Refuses .noStart (.readByte pol) s) ∧
    (s.bph = .afterStart → Refuses .addrExpected (.readByte pol) s) ∧
    (s.bph = .wphase → Refuses .dirMismatch (.readByte pol) s) ∧
    (s.bph = .rphaseDone → Refuses .readAfterNack (.readByte pol) s) ∧
    (s.bph = .stopped → Refuses .afterStop (.readByte pol) s)

/-- R133: STOP closes construction after a write phase or a finished read phase; each refusal. -/
def Obligations.StopCommand : Prop :=
  encode .stop = 0x6000 ∧ elementBits .stop = 0x600 ∧
  ∀ s : State,
    (s.bph = .wphase ∨ s.bph = .rphaseDone → s.bn < s.cfg.txnCap → Appends .stop 0 .stopped .stop s) ∧
    (s.bph = .wphase ∨ s.bph = .rphaseDone → s.bn = s.cfg.txnCap → Refuses .capacity .stop s) ∧
    (s.bph = .closed → Refuses .noTxn .stop s) ∧
    (s.bph = .empty → Refuses .noStart .stop s) ∧
    (s.bph = .afterStart → Refuses .addrExpected .stop s) ∧
    (s.bph = .rphaseAddr → Refuses .emptyRead .stop s) ∧
    (s.bph = .rphaseMore → Refuses .ackOnLast .stop s) ∧
    (s.bph = .stopped → Refuses .afterStop .stop s)

/-- R116, R117: no builder command makes bus traffic or writes the workflow, the read data or the results, and the only
failure one reports is `Malformed`. -/
def Obligations.BuilderLeavesTheRestAlone : Prop :=
  ∀ (i : Instr) (s t : State), isBuilder i = true → exec i s = .next t →
    t = { s with
      bph := t.bph, buf := t.buf, bn := t.bn, bnr := t.bnr, code := t.code, mreason := t.mreason, sticky := t.sticky } ∧
    (t.code = .ok ∨ t.code = .malformed) ∧ (i = .beginTxn → t.code = .ok)

/-- R115, first half: whenever the builder is `STOPPED`, the open transaction is well-formed (a)–(e). -/
def Obligations.StoppedIsWellFormed : Prop :=
  ∀ s : State, BlockInv s → s.bph = .stopped →
    txnWf s.cfg (openTxn s) = true ∧ s.bnr = countReads (openTxn s)

/-- R115, second half: every list satisfying (a)–(e) is built by BEGIN and a sequence of element commands, each finishing
`OK` (every prefix of the sequence does), with no failure recorded and no bus traffic. -/
def Obligations.EveryWellFormedTransactionIsBuildable : Prop :=
  ∀ (s : State) (T : Txn), BlockInv s → txnWf s.cfg T = true →
    ∃ (l : List Instr) (t : State), (∀ i ∈ l, isBuilder i = true ∧ i ≠ .beginTxn) ∧
      (∀ n ≤ l.length, ∃ u, runCmds (.beginTxn :: l.take n) s = .next u ∧ u.code = .ok) ∧
      runCmds (.beginTxn :: l) s = .next t ∧
      t.bph = .stopped ∧ openTxn t = T ∧ t.code = .ok ∧ t.sticky = s.sticky ∧ t.busLog = s.busLog

/-! ### EXECUTE and the transport (41_execute.md) -/

/-- R150, R151, R157, R160: EXECUTE's refusals before any bus traffic, and its effect for each answer. After a failure the read
slots hold SOME bytes, about which nothing is said (log 7). The answer is the pending one, where R153 admits it (log 5). -/
def Obligations.ExecuteCommand : Prop :=
  encode .execute = 0x7000 ∧
  ∀ s : State,
    (s.bph = .closed → Refuses .noTxn .execute s) ∧
    (s.bph = .empty → Refuses .noStart .execute s) ∧
    (s.bph ≠ .closed → s.bph ≠ .empty → s.bph ≠ .stopped → Refuses .missingStop .execute s) ∧
    (∀ d rest, s.bph = .stopped → s.answers = .ok d :: rest → s.bnr = countReads (openTxn s) → d.length = s.bnr →
      ∃ bytes : List Byte, bytes.length = s.rdata.length ∧
        (∀ k < bytes.length, bytes[k]? = if k < s.bnr then d[k]? else s.rdata[k]?) ∧
        exec .execute s = .next
          { s with
            busLog := s.busLog ++ [(s.buf.take s.bn, .ok d)], answers := rest, draws := s.draws + 1
            bph := .closed, bn := 0, bnr := 0, rdata := bytes, rdCount := s.bnr, rdataV := true
            code := .ok, mreason := .none }) ∧
    (∀ i b rest, s.bph = .stopped → s.answers = .nack i :: rest → (openTxn s)[i]? = some (.wr b true) →
      ∃ bytes : List Byte, bytes.length = s.cfg.rdCap ∧
        exec .execute s = .next
          { s with
            busLog := s.busLog ++ [(s.buf.take s.bn, .nack i)], answers := rest, draws := s.draws + 1
            bph := .closed, bn := 0, bnr := 0, rdata := bytes, rdCount := 0, rdataV := false
            code := .busNack, mreason := .none, sticky := s.sticky ||| 0x08 }) ∧
    (∀ rest, s.bph = .stopped → s.answers = .timeout :: rest →
      ∃ bytes : List Byte, bytes.length = s.cfg.rdCap ∧
        exec .execute s = .next
          { s with
            busLog := s.busLog ++ [(s.buf.take s.bn, .timeout)], answers := rest, draws := s.draws + 1
            bph := .closed, bn := 0, bnr := 0, rdata := bytes, rdCount := 0, rdataV := false
            code := .busTimeout, mreason := .none, sticky := s.sticky ||| 0x04 })

/-- R152, R153, R159: whatever the transport answers, a closed transaction makes exactly one call, the answer is one R153
admits and decides the status; and every answer R153 admits can occur. -/
def Obligations.ExecuteTakesAnyAdmissibleAnswer : Prop :=
  ∀ s : State, s.bph = .stopped →
    (∃ out t, admissible (openTxn s) out = true ∧ exec .execute s = .next t ∧
      t.busLog = s.busLog ++ [(openTxn s, out)] ∧ t.code = answerCode out ∧ t.bph = .closed ∧ t.wf = s.wf) ∧
    ∀ out, admissible (openTxn s) out = true →
      ∃ answers t, exec .execute { s with answers := answers } = .next t ∧
        t.busLog = s.busLog ++ [(openTxn s, out)] ∧ t.code = answerCode out

/-- R153, R156: a `Nack(i)` names a WR with `chk = 1`, and what the device has then received of the transaction is a prefix of it
that ends with that write. -/
def Obligations.NackedPrefixEndsAtTheWrite : Prop :=
  ∀ (T : Txn) (i : Nat) (p : Txn), admissible T (.nack i) = true → Received T (.nack i) p →
    i < T.length ∧ p <+: T ∧ p.length = i + 1 ∧ ∃ b, p.getLast? = some (.wr b true)

/-! ### Sequencer commands (42_sequencer.md) -/

/-- R181: a sequencer command while a host-built transaction is open does `finish(Busy)` and nothing else. -/
def Obligations.SequencerBusy : Prop :=
  ∀ (i : Instr) (s : State), isSequencer i = true → s.bph ≠ .closed →
    exec i s = .next { s with code := .busy, mreason := .none, sticky := s.sticky ||| 0x40 }

/-- R191 (refusals), R197, R204, R210: CONFIGURE and the sample reads in a workflow state that does not admit them finish
`WorkflowOrder` and do nothing else. -/
def Obligations.WorkflowOrderRefusals : Prop :=
  ∀ (i : Instr) (s : State), s.bph = .closed →
    (i = .configure ∧ s.wf = .uninitialized) ∨
      ((i = .readAccelX ∨ i = .readTemp) ∧ (s.wf = .uninitialized ∨ s.wf = .identityVerified)) →
    exec i s = .next { s with code := .workflowOrder, mreason := .none, sticky := s.sticky ||| 0x20 }

/-- R192, R193: VERIFY_IDENTITY with no transaction open: the transaction it sends, the comparison of the byte read with
`ID_EXPECT`, and a bus failure. `BUF` beyond `BN` holds SOME elements (R27). -/
def Obligations.VerifyIdentityCommand : Prop :=
  encode .verifyIdentity = 0x8000 ∧
  ∀ s : State, s.bph = .closed → 1 ≤ s.rdata.length →
    let T : Txn := [.start, .wr (addressByte s.cfg .write) true, .wr s.cfg.regWhoAmI true,
      .start, .wr (addressByte s.cfg .read) true, .rd .nack, .stop]
    (∀ rest, s.answers = .ok [s.cfg.idExpect] :: rest →
      ∃ buf, exec .verifyIdentity s = .next
        { s with
          buf := buf, bn := 0, bnr := 0, busLog := s.busLog ++ [(T, .ok [s.cfg.idExpect])], answers := rest
          draws := s.draws + 1, rdata := s.cfg.idExpect :: s.rdata.tail, rdCount := 1, rdataV := true
          wf := if s.wf = .uninitialized then .identityVerified else s.wf
          code := .ok, mreason := .none }) ∧
    (∀ b rest, b ≠ s.cfg.idExpect → s.answers = .ok [b] :: rest →
      ∃ buf, exec .verifyIdentity s = .next
        { s with
          buf := buf, bn := 0, bnr := 0, busLog := s.busLog ++ [(T, .ok [b])], answers := rest
          draws := s.draws + 1, rdata := b :: s.rdata.tail, rdCount := 1, rdataV := true, wf := .uninitialized
          code := .deviceNotPresent, mreason := .none, sticky := s.sticky ||| 0x02 }) ∧
    (∀ i rest, i = 1 ∨ i = 2 ∨ i = 4 → s.answers = .nack i :: rest →
      ∃ buf, ∃ bytes : List Byte, bytes.length = s.cfg.rdCap ∧ exec .verifyIdentity s = .next
        { s with
          buf := buf, bn := 0, bnr := 0, busLog := s.busLog ++ [(T, .nack i)], answers := rest
          draws := s.draws + 1, rdata := bytes, rdCount := 0, rdataV := false, wf := .uninitialized
          code := .busNack, mreason := .none, sticky := s.sticky ||| 0x08 }) ∧
    (∀ rest, s.answers = .timeout :: rest →
      ∃ buf, ∃ bytes : List Byte, bytes.length = s.cfg.rdCap ∧ exec .verifyIdentity s = .next
        { s with
          buf := buf, bn := 0, bnr := 0, busLog := s.busLog ++ [(T, .timeout)], answers := rest
          draws := s.draws + 1, rdata := bytes, rdCount := 0, rdataV := false, wf := .uninitialized
          code := .busTimeout, mreason := .none, sticky := s.sticky ||| 0x04 })

/-- R194: whatever the transport answered, VERIFY_IDENTITY succeeds if and only if the answer was the one byte `ID_EXPECT`. -/
def Obligations.IdentityIffExpectedByte : Prop :=
  ∀ s t : State, s.bph = .closed → 1 ≤ s.rdata.length → exec .verifyIdentity s = .next t →
    (t.code = .ok ↔ t.busLog = s.busLog ++ [identityEntry s.cfg]) ∧
    (t.code = .deviceNotPresent ↔ ∃ b, b ≠ s.cfg.idExpect ∧ t.busLog = s.busLog ++ [(txnId s.cfg, .ok [b])])

/-- R197, R198, R200: CONFIGURE in an admitting workflow state with five `Ok()` answers sends the five register writes in the
listed order. -/
def Obligations.ConfigureWritesAllFive : Prop :=
  encode .configure = 0x9000 ∧
  ∀ (s : State) (rest : List Answer), s.bph = .closed → s.wf ≠ .uninitialized →
    s.answers = .ok [] :: .ok [] :: .ok [] :: .ok [] :: .ok [] :: rest →
    let W : Byte → Byte → BusEntry := fun r v =>
      ([.start, .wr (addressByte s.cfg .write) true, .wr r true, .wr v true, .stop], .ok [])
    ∃ buf, exec .configure s = .next
      { s with
        buf := buf, bn := 0, bnr := 0, answers := rest, draws := s.draws + 5, rdCount := 0, rdataV := true
        busLog := s.busLog ++
          [W s.cfg.regPwrMgmt s.cfg.cfgPwrVal, W s.cfg.regSmplrtDiv s.cfg.cfgSmplrtVal, W s.cfg.regConfig s.cfg.cfgDlpfVal,
            W s.cfg.regGyroConfig s.cfg.cfgGyroVal, W s.cfg.regAccelConfig s.cfg.cfgAccelVal]
        wf := .configured, code := .ok, mreason := .none }

/-- R189, R197, R200: CONFIGURE whose write `j` is the first to fail leaves the later writes unsent and the workflow at
`IdentityVerified`. -/
def Obligations.ConfigureStopsAtFirstFailure : Prop :=
  ∀ (s : State) (j : Nat) (bad : Answer) (rest : List Answer), s.bph = .closed → s.wf ≠ .uninitialized → j < 5 →
    bad = .timeout ∨ bad = .nack 1 ∨ bad = .nack 2 ∨ bad = .nack 3 →
    s.answers = List.replicate j (.ok []) ++ bad :: rest →
    ∃ buf rv, ∃ bytes : List Byte, bytes.length = s.cfg.rdCap ∧ (cfgList s.cfg)[j]? = some rv ∧ exec .configure s = .next
      { s with
        buf := buf, bn := 0, bnr := 0, answers := rest, draws := s.draws + (j + 1), rdata := bytes, rdCount := 0
        rdataV := false
        busLog := s.busLog ++ (configEntries s.cfg).take j ++ [(txnCfg s.cfg rv.1 rv.2, bad)]
        wf := .identityVerified, code := answerCode bad, mreason := .none
        sticky := s.sticky ||| (if bad = .timeout then 0x04 else 0x08) }

/-- R204, R206, R215: READ_ACCEL_X in an admitting workflow state: the transaction, the big-endian sample on success, and on
failure the old sample kept and `VALID[1]` cleared. -/
def Obligations.ReadAccelCommand : Prop :=
  encode .readAccelX = 0xA000 ∧
  ∀ s : State, s.bph = .closed → s.wf = .configured ∨ s.wf = .sampling → 2 ≤ s.rdata.length →
    let T : Txn := [.start, .wr (addressByte s.cfg .write) true, .wr s.cfg.regAccelXoutH true,
      .start, .wr (addressByte s.cfg .read) true, .rd .ack, .rd .nack, .stop]
    (∀ hi lo rest, s.answers = .ok [hi, lo] :: rest →
      ∃ buf, exec .readAccelX s = .next
        { s with
          buf := buf, bn := 0, bnr := 0, busLog := s.busLog ++ [(T, .ok [hi, lo])], answers := rest
          draws := s.draws + 1, rdata := hi :: lo :: s.rdata.drop 2, rdCount := 2, rdataV := true
          accelXRaw := BitVec.ofNat 16 (hi.toNat * 256 + lo.toNat), accelV := true, wf := .sampling
          code := .ok, mreason := .none }) ∧
    (∀ bad rest, bad = .timeout ∨ bad = .nack 1 ∨ bad = .nack 2 ∨ bad = .nack 4 → s.answers = bad :: rest →
      ∃ buf, ∃ bytes : List Byte, bytes.length = s.cfg.rdCap ∧ exec .readAccelX s = .next
        { s with
          buf := buf, bn := 0, bnr := 0, busLog := s.busLog ++ [(T, bad)], answers := rest
          draws := s.draws + 1, rdata := bytes, rdCount := 0, rdataV := false, accelV := false
          code := answerCode bad, mreason := .none, sticky := s.sticky ||| (if bad = .timeout then 0x04 else 0x08) })

/-- R210, R212, R216: READ_TEMP in an admitting workflow state: the transaction, the raw sample and its Celsius value on
success, computed with the two literals of the configuration (R9, log 23), and on failure both kept and `VALID[2]` cleared. -/
def Obligations.ReadTempCommand : Prop :=
  encode .readTemp = 0xB000 ∧
  ∀ s : State, s.bph = .closed → s.wf = .configured ∨ s.wf = .sampling → 2 ≤ s.rdata.length →
    let T : Txn := [.start, .wr (addressByte s.cfg .write) true, .wr s.cfg.regTempOutH true,
      .start, .wr (addressByte s.cfg .read) true, .rd .ack, .rd .nack, .stop]
    (∀ hi lo rest, s.answers = .ok [hi, lo] :: rest →
      ∃ buf, exec .readTemp s = .next
        { s with
          buf := buf, bn := 0, bnr := 0, busLog := s.busLog ++ [(T, .ok [hi, lo])], answers := rest
          draws := s.draws + 1, rdata := hi :: lo :: s.rdata.drop 2, rdCount := 2, rdataV := true
          tempRaw := BitVec.ofNat 16 (hi.toNat * 256 + lo.toNat)
          tempC := flAdd (flQuot (BitVec.ofNat 16 (hi.toNat * 256 + lo.toNat)).toInt s.cfg.tempDivisor) s.cfg.tempOffset
          tempV := true, wf := .sampling, code := .ok, mreason := .none }) ∧
    (∀ bad rest, bad = .timeout ∨ bad = .nack 1 ∨ bad = .nack 2 ∨ bad = .nack 4 → s.answers = bad :: rest →
      ∃ buf, ∃ bytes : List Byte, bytes.length = s.cfg.rdCap ∧ exec .readTemp s = .next
        { s with
          buf := buf, bn := 0, bnr := 0, busLog := s.busLog ++ [(T, bad)], answers := rest
          draws := s.draws + 1, rdata := bytes, rdCount := 0, rdataV := false, tempV := false
          code := answerCode bad, mreason := .none, sticky := s.sticky ||| (if bad = .timeout then 0x04 else 0x08) })

/-- R187: in every configuration within R8's bounds the templates of the sequencer are well-formed transactions, and a sequencer
command never finishes `Malformed`. -/
def Obligations.TemplatesAreWellFormed : Prop :=
  (∀ c : Config, c.wf = true →
    txnWf c (txnId c) = true ∧ (∀ r v, txnWf c (txnCfg c r v) = true) ∧ ∀ r, txnWf c (txnRd2 c r) = true) ∧
  ∀ (i : Instr) (s t : State), isSequencer i = true → exec i s = .next t → t.code ≠ .malformed

/-- R188: the templates in the element format with the default ROM (its addresses are the spec's defaults, log 4). -/
def Obligations.DefaultTemplateBits : Prop :=
  (txnId Config.default).map elementBits = [0x000, 0x3D0, 0x375, 0x000, 0x3D1, 0x500, 0x600] ∧
  ((cfgList Config.default).map fun rv => (txnCfg Config.default rv.1 rv.2).map elementBits) =
    [[0x000, 0x3D0, 0x36B, 0x300, 0x600], [0x000, 0x3D0, 0x319, 0x307, 0x600], [0x000, 0x3D0, 0x31A, 0x300, 0x600],
      [0x000, 0x3D0, 0x31B, 0x300, 0x600], [0x000, 0x3D0, 0x31C, 0x300, 0x600]] ∧
  (txnRd2 Config.default Config.default.regAccelXoutH).map elementBits =
    [0x000, 0x3D0, 0x33B, 0x000, 0x3D1, 0x400, 0x500, 0x600] ∧
  (txnRd2 Config.default Config.default.regTempOutH).map elementBits =
    [0x000, 0x3D0, 0x341, 0x000, 0x3D1, 0x400, 0x500, 0x600]

/-! ### Decoding samples (42_sequencer.md R215–R217) -/

/-- R215, R217: `be16` is the integer `sext_16(hi * 256 + lo)`, and decoding the two bytes of any 16-bit value gives it back. -/
def Obligations.SampleAssembly : Prop :=
  (∀ hi lo : Byte, (be16 hi lo).toInt =
    if hi.toNat * 256 + lo.toNat < 0x8000 then ((hi.toNat * 256 + lo.toNat : Nat) : Int)
    else ((hi.toNat * 256 + lo.toNat : Nat) : Int) - 0x10000) ∧
  ∀ x : Int, -32768 ≤ x → x ≤ 32767 →
    (be16 ((BitVec.ofInt 16 x).extractLsb' 8 8) ((BitVec.ofInt 16 x).extractLsb' 0 8)).toInt = x

/-- R216, R9: with the spec's literals in the configuration, `340.0` and the binary64 value nearest 36.53 (log 23), the Celsius
value is `fl(fl(raw / 340) + C)`; and those patterns are the values of the literals. -/
def Obligations.CelsiusIsTheDocumentsFormula : Prop :=
  (∀ (c : Config) (raw : BitVec 16), c.tempDivisor = 0x4075400000000000 → c.tempOffset = 0x404243D70A3D70A4 →
    celsius c raw = flAdd (flFrac raw.toInt 340) 0x404243D70A3D70A4) ∧
  flNum 0x4075400000000000 = 340 * flDen 0x4075400000000000 ∧ flFrac 3653 100 = 0x404243D70A3D70A4

/-- Vectors T1–T17 of 95_test_vectors.md (R216), with the default literals. -/
def Obligations.CelsiusVectors : Prop :=
  [0x0000, 0xFFFF, 0x0001, 0x0154, 0xFEAC, 0x7FFF, 0x8000, 0xCF7C, 0x03E8, 0xFDF7, 0x1234, 0xF800, 0xFF00, 0x00FF, 0x0100,
    0x8001, 0x7FFE].map (celsius Config.default) =
  [0x404243D70A3D70A4, 0x40424376A9DD1044, 0x404244376A9DD104, 0x4042C3D70A3D70A4, 0x4041C3D70A3D70A4, 0x40609CE9B683501D,
    0xC04DEC5925F2BF8C, 0x3F434679ACE00000, 0x4043BC4F82B5E91C, 0x40417FB2E6194C80, 0x40491E316497CAFE, 0x403E81A80E74DB42,
    0x4041E376A9DD1044, 0x4042A3D70A3D70A4, 0x4042A4376A9DD104, 0xC04DEBF8C5925F2C, 0x40609CD19E6B3805]

/-- R216: with the default literals, the Celsius value of every raw sample is finite, not zero and not subnormal (its exponent field is neither all ones
nor all zeros), and is strictly increasing in the raw sample. -/
def Obligations.CelsiusFiniteAndIncreasing : Prop :=
  ∀ a b : BitVec 16,
    expField (celsius Config.default a) ≠ 0x7FF ∧ expField (celsius Config.default a) ≠ 0 ∧
    (a.toInt < b.toInt →
      flNum (celsius Config.default a) * flDen (celsius Config.default b) <
        flNum (celsius Config.default b) * flDen (celsius Config.default a))

/-- R216 (`fl` rounds to nearest, ties to even), for every fraction of magnitude at least `2 ^ -1022` and below `2 ^ 1023`: no
finite pattern is nearer, and a pattern as near with another value means the chosen fraction is even. -/
def Obligations.RoundingIsNearestEven : Prop :=
  ∀ (num : Int) (den : Nat) (x : BitVec 64), 0 < den → den ≤ num.natAbs * 2 ^ 1022 → num.natAbs < den * 2 ^ 1023 →
    expField x ≠ 0x7FF →
    let q : ℚ := (num : ℚ) / (den : ℚ)
    let r : ℚ := (flNum (flFrac num den) : ℚ) / (flDen (flFrac num den) : ℚ)
    let y : ℚ := (flNum x : ℚ) / (flDen x : ℚ)
    |r - q| ≤ |y - q| ∧ (|r - q| = |y - q| → y ≠ r → fracField (flFrac num den) % 2 = 0)

/-! ### The whole machine -/

/-- R20, R22, R25–R31, R36, R37, R115: every step keeps the invariant of the block's state. -/
def Obligations.StepKeepsInv : Prop :=
  ∀ s t : State, BlockInv s → step s = .next t → BlockInv t

/-- The invariant holds at reset (R41), in the default configuration (log 3). -/
def Obligations.ResetMeetsInv : Prop := BlockInv State.reset

/-- R191, R264, R265, R269, R31–R33: every step keeps the histories: past `Uninitialized` a successful identity check is on the
bus, in `Configured` and `Sampling` the five configuration writes follow one, and a valid result is what the bus returned. -/
def Obligations.StepKeepsHistory : Prop :=
  ∀ s t : State, History s → step s = .next t → History t

/-- The histories hold at reset, in the default configuration (log 3). -/
def Obligations.ResetMeetsHistory : Prop := History State.reset

/-- R269: CONFIGURE makes bus traffic only after a successful identity check. -/
def Obligations.ConfigureNeedsIdentity : Prop :=
  ∀ s t : State, IdentitySeen s → exec .configure s = .next t → t.busLog ≠ s.busLog → identityEntry s.cfg ∈ s.busLog

/-- R25: a command sets the STICKY bit of its failure code and no other, and clears none, as does every step that takes a command
word, legal or not; an illegal word sets bit 7; the register reads 0 in bit 0 and above bit 7; only the reset input clears a bit;
the register is 0 at reset. -/
def Obligations.StickyRecordsEveryFailure : Prop :=
  (∀ (i : Instr) (s t : State) (b : Nat), exec i s = .next t → b < 8 →
    t.sticky.getLsbD b = (s.sticky.getLsbD b || (decide (t.code ≠ .ok) && decide (codeNum t.code = b)))) ∧
  (∀ (s t : State) (w : CmdWord) (rest : List HostInput) (b : Nat), s.host = .command w :: rest → step s = .next t → b < 8 →
    t.sticky.getLsbD b = (s.sticky.getLsbD b || (decide (t.code ≠ .ok) && decide (codeNum t.code = b)))) ∧
  (∀ (s t : State) (w : CmdWord) (rest : List HostInput), s.host = .command w :: rest → commandOf (decode w) = none →
    step s = .next t → t.code = .illegalCommand ∧ t.sticky = s.sticky ||| 0x80) ∧
  readPort State.reset 0x01 = 0 ∧
  (∀ (s t : State) (b : Nat), step s = .next t → s.host.head? ≠ some .reset →
    s.sticky.getLsbD b = true → t.sticky.getLsbD b = true) ∧
  (∀ (s t : State), step s = .next t → s.host.head? = some .reset → t.sticky = 0) ∧
  ∀ (s : State) (b : Nat), (readPort s 0x01).getLsbD b = (decide (1 ≤ b) && s.sticky.getLsbD b)

/-- R191: every write of the workflow state, and where CONFIGURE and the sample reads are refused; no other command writes it
(R29, D30). -/
def Obligations.WorkflowTransitions : Prop :=
  ∀ (i : Instr) (s t : State), exec i s = .next t →
    (isSequencer i = false → t.wf = s.wf) ∧
    (t.code = .busy ∨ t.code = .workflowOrder → t.wf = s.wf) ∧
    (i = .verifyIdentity →
      t.code ≠ .workflowOrder ∧
      (t.code = .ok → t.wf = if s.wf = .uninitialized then .identityVerified else s.wf) ∧
      (t.code = .busNack ∨ t.code = .busTimeout ∨ t.code = .deviceNotPresent → t.wf = .uninitialized)) ∧
    (i = .configure →
      (s.bph = .closed → (t.code = .workflowOrder ↔ s.wf = .uninitialized)) ∧
      (t.code = .ok → t.wf = .configured) ∧
      (t.code = .busNack ∨ t.code = .busTimeout → t.wf = .identityVerified)) ∧
    (i = .readAccelX ∨ i = .readTemp →
      (s.bph = .closed → (t.code = .workflowOrder ↔ s.wf = .uninitialized ∨ s.wf = .identityVerified)) ∧
      (t.code = .ok → t.wf = .sampling) ∧
      (t.code = .busNack ∨ t.code = .busTimeout → t.wf = s.wf))

/-- R23 and R231 (the columns "raised by" and "commands"): the codes each command can finish with; no command reports
`IllegalCommand`, no sequencer command `Malformed`. -/
def Obligations.CodesOfEachCommand : Prop :=
  ∀ (i : Instr) (s t : State), exec i s = .next t →
    t.code ≠ .illegalCommand ∧
    (t.code = .deviceNotPresent → i = .verifyIdentity) ∧
    (t.code = .busTimeout ∨ t.code = .busNack → i = .execute ∨ isSequencer i = true) ∧
    (t.code = .malformed → i = .execute ∨ (isBuilder i = true ∧ i ≠ .beginTxn)) ∧
    (t.code = .workflowOrder → i = .configure ∨ i = .readAccelX ∨ i = .readTemp) ∧
    (t.code = .busy ↔ isSequencer i = true ∧ s.bph ≠ .closed)

/-- R67, R159, R189, R238: a command's bus traffic is appended to the log in order, at most five calls (CONFIGURE), at most one
for EXECUTE and the other sequencer commands, none for a builder command; nothing follows a call that failed. -/
def Obligations.BusTrafficOfACommand : Prop :=
  ∀ (i : Instr) (s t : State), exec i s = .next t →
    ∃ l : List BusEntry, t.busLog = s.busLog ++ l ∧
      l.length ≤ (if i = .configure then 5 else if i = .execute ∨ isSequencer i = true then 1 else 0) ∧
      (∀ e ∈ l, admissible e.1 e.2 = true) ∧
      (∀ e ∈ l.dropLast, answerCode e.2 = .ok)

/-- R27, R38, A14: the entries of `BUF` beyond `BN` are not part of the transaction: two states that differ only there step
alike, up to entries beyond `BN`. -/
def Obligations.BufBeyondBnIsUnobservable : Prop :=
  ∀ (i : Instr) (s t : State) (buf : List Element),
    buf.length = s.buf.length → buf.take s.bn = s.buf.take s.bn → exec i s = .next t →
    ∃ buf', exec i { s with buf := buf } = .next { t with buf := buf' } ∧ buf'.take t.bn = t.buf.take t.bn

/-- R37: no command reads `BUSLOG`: with another log before it, a command does the same and appends the same entries. -/
def Obligations.BusLogIsNeverRead : Prop :=
  ∀ (i : Instr) (s t : State) (log : List BusEntry), exec i s = .next t →
    exec i { s with busLog := log } = .next { t with busLog := log ++ t.busLog.drop s.busLog.length }

/-- R61, R89: the macros WRREG, RDREG and PROBE, run from any state of the block, hand the transport exactly the register
write, the register read and the address-only transaction, and report its answer. -/
def Obligations.MacrosReachTheDevice : Prop :=
  ∀ s : State, BlockInv s →
    (∀ r v, ∃ t out, runCmds (wrreg r v) s = .next t ∧ t.code = answerCode out ∧ t.busLog = s.busLog ++
      [([.start, .wr (addressByte s.cfg .write) true, .wr r true, .wr v true, .stop], out)]) ∧
    (∀ r n, 1 ≤ n → n ≤ s.cfg.rdCap → n + 6 ≤ s.cfg.txnCap →
      ∃ is t out, rdreg s.cfg r n = some is ∧ runCmds is s = .next t ∧ t.code = answerCode out ∧
        t.busLog = s.busLog ++
          [([.start, .wr (addressByte s.cfg .write) true, .wr r true, .start, .wr (addressByte s.cfg .read) true] ++
            List.replicate (n - 1) (.rd .ack) ++ [.rd .nack, .stop], out)]) ∧
    ∃ t out, runCmds probe s = .next t ∧ t.code = answerCode out ∧ t.busLog = s.busLog ++
      [([.start, .wr (addressByte s.cfg .write) true, .stop], out)]
end

