-- ==== Sys2Proof/Laws/Binary64.lean ====
section
/-! SUPPORT. The rounding of 42_sequencer.md R216 depends on the fraction alone, not on the power of two it is scaled by; the
quotient by R216's `340.0` is therefore the rounded fraction over 340. -/

namespace Sys2Proof.Machine

theorem log2_mul_two_pow {n : Nat} (hn : n ≠ 0) (k : Nat) : Nat.log2 (n * 2 ^ k) = Nat.log2 n + k := by
  rw [Nat.log2_eq_iff (by positivity)]
  have h := (Nat.log2_eq_iff hn).mp rfl
  have hk : 0 < 2 ^ k := by positivity
  constructor
  · rw [pow_add]; exact Nat.mul_le_mul_right _ h.1
  · rw [show n.log2 + k + 1 = n.log2 + 1 + k by omega, pow_add]
    exact Nat.mul_lt_mul_of_pos_right h.2 hk

theorem ratioLog2_scale {n d : Nat} (hn : n ≠ 0) (hd : d ≠ 0) (k : Nat) :
    ratioLog2 (n * 2 ^ k) (d * 2 ^ k) = ratioLog2 n d := by
  have hk : 0 < 2 ^ k := by positivity
  have hdiff : ((Nat.log2 n + k : Nat) : Int) - ((Nat.log2 d + k : Nat) : Int) = Nat.log2 n - Nat.log2 d := by omega
  simp only [ratioLog2, log2_mul_two_pow hn, log2_mul_two_pow hd, hdiff, Nat.mul_right_comm _ (2 ^ k),
    Nat.mul_le_mul_right_iff hk]

theorem divNearestEven_scale (a b : Nat) {m : Nat} (hm : 0 < m) : divNearestEven (a * m) (b * m) = divNearestEven a b := by
  have h2 : 2 * (a % b * m) = 2 * (a % b) * m := by ring
  simp only [divNearestEven, Nat.mul_div_mul_right _ _ hm, Nat.mul_mod_mul_right, h2, Nat.mul_lt_mul_right hm,
    Nat.mul_left_inj hm.ne']

theorem ulpExp_scale {n d : Nat} (hn : n ≠ 0) (hd : d ≠ 0) (k : Nat) : ulpExp (n * 2 ^ k) (d * 2 ^ k) = ulpExp n d := by
  rw [ulpExp, ratioLog2_scale hn hd, ulpExp]

theorem roundedMant_scale {n d : Nat} (hn : n ≠ 0) (hd : d ≠ 0) (k : Nat) :
    roundedMant (n * 2 ^ k) (d * 2 ^ k) = roundedMant n d := by
  rw [roundedMant, ulpExp_scale hn hd, Nat.mul_right_comm n, Nat.mul_right_comm d, divNearestEven_scale _ _ (by positivity),
    roundedMant]

theorem roundMag_scale (n : Nat) {d : Nat} (hd : d ≠ 0) (k : Nat) : roundMag (n * 2 ^ k) (d * 2 ^ k) = roundMag n d := by
  by_cases hn : n = 0
  · rw [hn, Nat.zero_mul, roundMag, if_pos rfl, roundMag, if_pos rfl]
  · rw [roundMag, if_neg (by positivity), ulpExp_scale hn hd, roundedMant_scale hn hd, roundMag, if_neg hn]

/-- `fl` of a fraction scaled by a power of two. -/
theorem flFrac_scale (num : Int) {den : Nat} (hd : den ≠ 0) (k : Nat) :
    flFrac (num * 2 ^ k) (den * 2 ^ k) = flFrac num den := by
  have hk : (0 : Int) < 2 ^ k := by positivity
  have hneg : num * 2 ^ k < 0 ↔ num < 0 := by
    constructor
    · intro h; by_contra hn; exact absurd h (not_lt.mpr (mul_nonneg (not_lt.mp hn) hk.le))
    · intro h; exact mul_neg_of_neg_of_pos h hk
  simp only [flFrac, hneg, Int.natAbs_mul, Int.natAbs_pow, roundMag_scale _ hd, show Int.natAbs 2 = 2 from rfl]

end Sys2Proof.Machine
end

