-- ==== Sys2Proof/Laws/State.lean ====
section
/-! SUPPORT. What each named update of the state does to each field: one lemma per field, true by unfolding. -/

namespace Sys2Proof.Machine

/-! ### setStatus -/

@[simp] theorem setStatus_cfg (c : StatusCode) (r : MReason) (s : State) : (setStatus c r s).cfg = s.cfg := rfl
@[simp] theorem setStatus_code (c : StatusCode) (r : MReason) (s : State) : (setStatus c r s).code = c := rfl
@[simp] theorem setStatus_mreason (c : StatusCode) (r : MReason) (s : State) : (setStatus c r s).mreason = r := rfl
@[simp] theorem setStatus_sticky (c : StatusCode) (r : MReason) (s : State) : (setStatus c r s).sticky = stickyAfter c s.sticky := rfl
@[simp] theorem setStatus_bph (c : StatusCode) (r : MReason) (s : State) : (setStatus c r s).bph = s.bph := rfl
@[simp] theorem setStatus_buf (c : StatusCode) (r : MReason) (s : State) : (setStatus c r s).buf = s.buf := rfl
@[simp] theorem setStatus_bn (c : StatusCode) (r : MReason) (s : State) : (setStatus c r s).bn = s.bn := rfl
@[simp] theorem setStatus_bnr (c : StatusCode) (r : MReason) (s : State) : (setStatus c r s).bnr = s.bnr := rfl
@[simp] theorem setStatus_wf (c : StatusCode) (r : MReason) (s : State) : (setStatus c r s).wf = s.wf := rfl
@[simp] theorem setStatus_rdata (c : StatusCode) (r : MReason) (s : State) : (setStatus c r s).rdata = s.rdata := rfl
@[simp] theorem setStatus_rdCount (c : StatusCode) (r : MReason) (s : State) : (setStatus c r s).rdCount = s.rdCount := rfl
@[simp] theorem setStatus_rdataV (c : StatusCode) (r : MReason) (s : State) : (setStatus c r s).rdataV = s.rdataV := rfl
@[simp] theorem setStatus_accelV (c : StatusCode) (r : MReason) (s : State) : (setStatus c r s).accelV = s.accelV := rfl
@[simp] theorem setStatus_tempV (c : StatusCode) (r : MReason) (s : State) : (setStatus c r s).tempV = s.tempV := rfl
@[simp] theorem setStatus_accelXRaw (c : StatusCode) (r : MReason) (s : State) : (setStatus c r s).accelXRaw = s.accelXRaw := rfl
@[simp] theorem setStatus_tempRaw (c : StatusCode) (r : MReason) (s : State) : (setStatus c r s).tempRaw = s.tempRaw := rfl
@[simp] theorem setStatus_tempC (c : StatusCode) (r : MReason) (s : State) : (setStatus c r s).tempC = s.tempC := rfl
@[simp] theorem setStatus_busLog (c : StatusCode) (r : MReason) (s : State) : (setStatus c r s).busLog = s.busLog := rfl
@[simp] theorem setStatus_host (c : StatusCode) (r : MReason) (s : State) : (setStatus c r s).host = s.host := rfl
@[simp] theorem setStatus_readLog (c : StatusCode) (r : MReason) (s : State) : (setStatus c r s).readLog = s.readLog := rfl
@[simp] theorem setStatus_answers (c : StatusCode) (r : MReason) (s : State) : (setStatus c r s).answers = s.answers := rfl
@[simp] theorem setStatus_draws (c : StatusCode) (r : MReason) (s : State) : (setStatus c r s).draws = s.draws := rfl

/-! ### discardTxn -/

@[simp] theorem discardTxn_cfg (s : State) : (discardTxn s).cfg = s.cfg := rfl
@[simp] theorem discardTxn_code (s : State) : (discardTxn s).code = s.code := rfl
@[simp] theorem discardTxn_mreason (s : State) : (discardTxn s).mreason = s.mreason := rfl
@[simp] theorem discardTxn_sticky (s : State) : (discardTxn s).sticky = s.sticky := rfl
@[simp] theorem discardTxn_bph (s : State) : (discardTxn s).bph = .closed := rfl
@[simp] theorem discardTxn_buf (s : State) : (discardTxn s).buf = s.buf := rfl
@[simp] theorem discardTxn_bn (s : State) : (discardTxn s).bn = 0 := rfl
@[simp] theorem discardTxn_bnr (s : State) : (discardTxn s).bnr = 0 := rfl
@[simp] theorem discardTxn_wf (s : State) : (discardTxn s).wf = s.wf := rfl
@[simp] theorem discardTxn_rdata (s : State) : (discardTxn s).rdata = s.rdata := rfl
@[simp] theorem discardTxn_rdCount (s : State) : (discardTxn s).rdCount = s.rdCount := rfl
@[simp] theorem discardTxn_rdataV (s : State) : (discardTxn s).rdataV = s.rdataV := rfl
@[simp] theorem discardTxn_accelV (s : State) : (discardTxn s).accelV = s.accelV := rfl
@[simp] theorem discardTxn_tempV (s : State) : (discardTxn s).tempV = s.tempV := rfl
@[simp] theorem discardTxn_accelXRaw (s : State) : (discardTxn s).accelXRaw = s.accelXRaw := rfl
@[simp] theorem discardTxn_tempRaw (s : State) : (discardTxn s).tempRaw = s.tempRaw := rfl
@[simp] theorem discardTxn_tempC (s : State) : (discardTxn s).tempC = s.tempC := rfl
@[simp] theorem discardTxn_busLog (s : State) : (discardTxn s).busLog = s.busLog := rfl
@[simp] theorem discardTxn_host (s : State) : (discardTxn s).host = s.host := rfl
@[simp] theorem discardTxn_readLog (s : State) : (discardTxn s).readLog = s.readLog := rfl
@[simp] theorem discardTxn_answers (s : State) : (discardTxn s).answers = s.answers := rfl
@[simp] theorem discardTxn_draws (s : State) : (discardTxn s).draws = s.draws := rfl

/-! ### setPhase -/

@[simp] theorem setPhase_cfg (p : Phase) (s : State) : (setPhase p s).cfg = s.cfg := rfl
@[simp] theorem setPhase_code (p : Phase) (s : State) : (setPhase p s).code = s.code := rfl
@[simp] theorem setPhase_mreason (p : Phase) (s : State) : (setPhase p s).mreason = s.mreason := rfl
@[simp] theorem setPhase_sticky (p : Phase) (s : State) : (setPhase p s).sticky = s.sticky := rfl
@[simp] theorem setPhase_bph (p : Phase) (s : State) : (setPhase p s).bph = p := rfl
@[simp] theorem setPhase_buf (p : Phase) (s : State) : (setPhase p s).buf = s.buf := rfl
@[simp] theorem setPhase_bn (p : Phase) (s : State) : (setPhase p s).bn = s.bn := rfl
@[simp] theorem setPhase_bnr (p : Phase) (s : State) : (setPhase p s).bnr = s.bnr := rfl
@[simp] theorem setPhase_wf (p : Phase) (s : State) : (setPhase p s).wf = s.wf := rfl
@[simp] theorem setPhase_rdata (p : Phase) (s : State) : (setPhase p s).rdata = s.rdata := rfl
@[simp] theorem setPhase_rdCount (p : Phase) (s : State) : (setPhase p s).rdCount = s.rdCount := rfl
@[simp] theorem setPhase_rdataV (p : Phase) (s : State) : (setPhase p s).rdataV = s.rdataV := rfl
@[simp] theorem setPhase_accelV (p : Phase) (s : State) : (setPhase p s).accelV = s.accelV := rfl
@[simp] theorem setPhase_tempV (p : Phase) (s : State) : (setPhase p s).tempV = s.tempV := rfl
@[simp] theorem setPhase_accelXRaw (p : Phase) (s : State) : (setPhase p s).accelXRaw = s.accelXRaw := rfl
@[simp] theorem setPhase_tempRaw (p : Phase) (s : State) : (setPhase p s).tempRaw = s.tempRaw := rfl
@[simp] theorem setPhase_tempC (p : Phase) (s : State) : (setPhase p s).tempC = s.tempC := rfl
@[simp] theorem setPhase_busLog (p : Phase) (s : State) : (setPhase p s).busLog = s.busLog := rfl
@[simp] theorem setPhase_host (p : Phase) (s : State) : (setPhase p s).host = s.host := rfl
@[simp] theorem setPhase_readLog (p : Phase) (s : State) : (setPhase p s).readLog = s.readLog := rfl
@[simp] theorem setPhase_answers (p : Phase) (s : State) : (setPhase p s).answers = s.answers := rfl
@[simp] theorem setPhase_draws (p : Phase) (s : State) : (setPhase p s).draws = s.draws := rfl

/-! ### appendElement -/

@[simp] theorem appendElement_cfg (e : Element) (s : State) : (appendElement e s).cfg = s.cfg := rfl
@[simp] theorem appendElement_code (e : Element) (s : State) : (appendElement e s).code = s.code := rfl
@[simp] theorem appendElement_mreason (e : Element) (s : State) : (appendElement e s).mreason = s.mreason := rfl
@[simp] theorem appendElement_sticky (e : Element) (s : State) : (appendElement e s).sticky = s.sticky := rfl
@[simp] theorem appendElement_bph (e : Element) (s : State) : (appendElement e s).bph = s.bph := rfl
@[simp] theorem appendElement_buf (e : Element) (s : State) : (appendElement e s).buf = s.buf.set s.bn e := rfl
@[simp] theorem appendElement_bn (e : Element) (s : State) : (appendElement e s).bn = s.bn + 1 := rfl
@[simp] theorem appendElement_bnr (e : Element) (s : State) : (appendElement e s).bnr = if isRead e then s.bnr + 1 else s.bnr := rfl
@[simp] theorem appendElement_wf (e : Element) (s : State) : (appendElement e s).wf = s.wf := rfl
@[simp] theorem appendElement_rdata (e : Element) (s : State) : (appendElement e s).rdata = s.rdata := rfl
@[simp] theorem appendElement_rdCount (e : Element) (s : State) : (appendElement e s).rdCount = s.rdCount := rfl
@[simp] theorem appendElement_rdataV (e : Element) (s : State) : (appendElement e s).rdataV = s.rdataV := rfl
@[simp] theorem appendElement_accelV (e : Element) (s : State) : (appendElement e s).accelV = s.accelV := rfl
@[simp] theorem appendElement_tempV (e : Element) (s : State) : (appendElement e s).tempV = s.tempV := rfl
@[simp] theorem appendElement_accelXRaw (e : Element) (s : State) : (appendElement e s).accelXRaw = s.accelXRaw := rfl
@[simp] theorem appendElement_tempRaw (e : Element) (s : State) : (appendElement e s).tempRaw = s.tempRaw := rfl
@[simp] theorem appendElement_tempC (e : Element) (s : State) : (appendElement e s).tempC = s.tempC := rfl
@[simp] theorem appendElement_busLog (e : Element) (s : State) : (appendElement e s).busLog = s.busLog := rfl
@[simp] theorem appendElement_host (e : Element) (s : State) : (appendElement e s).host = s.host := rfl
@[simp] theorem appendElement_readLog (e : Element) (s : State) : (appendElement e s).readLog = s.readLog := rfl
@[simp] theorem appendElement_answers (e : Element) (s : State) : (appendElement e s).answers = s.answers := rfl
@[simp] theorem appendElement_draws (e : Element) (s : State) : (appendElement e s).draws = s.draws := rfl

/-! ### logCall -/

@[simp] theorem logCall_cfg (T : Txn) (out : Answer) (s : State) : (logCall T out s).cfg = s.cfg := rfl
@[simp] theorem logCall_code (T : Txn) (out : Answer) (s : State) : (logCall T out s).code = s.code := rfl
@[simp] theorem logCall_mreason (T : Txn) (out : Answer) (s : State) : (logCall T out s).mreason = s.mreason := rfl
@[simp] theorem logCall_sticky (T : Txn) (out : Answer) (s : State) : (logCall T out s).sticky = s.sticky := rfl
@[simp] theorem logCall_bph (T : Txn) (out : Answer) (s : State) : (logCall T out s).bph = s.bph := rfl
@[simp] theorem logCall_buf (T : Txn) (out : Answer) (s : State) : (logCall T out s).buf = s.buf := rfl
@[simp] theorem logCall_bn (T : Txn) (out : Answer) (s : State) : (logCall T out s).bn = s.bn := rfl
@[simp] theorem logCall_bnr (T : Txn) (out : Answer) (s : State) : (logCall T out s).bnr = s.bnr := rfl
@[simp] theorem logCall_wf (T : Txn) (out : Answer) (s : State) : (logCall T out s).wf = s.wf := rfl
@[simp] theorem logCall_rdata (T : Txn) (out : Answer) (s : State) : (logCall T out s).rdata = s.rdata := rfl
@[simp] theorem logCall_rdCount (T : Txn) (out : Answer) (s : State) : (logCall T out s).rdCount = s.rdCount := rfl
@[simp] theorem logCall_rdataV (T : Txn) (out : Answer) (s : State) : (logCall T out s).rdataV = s.rdataV := rfl
@[simp] theorem logCall_accelV (T : Txn) (out : Answer) (s : State) : (logCall T out s).accelV = s.accelV := rfl
@[simp] theorem logCall_tempV (T : Txn) (out : Answer) (s : State) : (logCall T out s).tempV = s.tempV := rfl
@[simp] theorem logCall_accelXRaw (T : Txn) (out : Answer) (s : State) : (logCall T out s).accelXRaw = s.accelXRaw := rfl
@[simp] theorem logCall_tempRaw (T : Txn) (out : Answer) (s : State) : (logCall T out s).tempRaw = s.tempRaw := rfl
@[simp] theorem logCall_tempC (T : Txn) (out : Answer) (s : State) : (logCall T out s).tempC = s.tempC := rfl
@[simp] theorem logCall_busLog (T : Txn) (out : Answer) (s : State) : (logCall T out s).busLog = s.busLog ++ [(T, out)] := rfl
@[simp] theorem logCall_host (T : Txn) (out : Answer) (s : State) : (logCall T out s).host = s.host := rfl
@[simp] theorem logCall_readLog (T : Txn) (out : Answer) (s : State) : (logCall T out s).readLog = s.readLog := rfl
@[simp] theorem logCall_answers (T : Txn) (out : Answer) (s : State) : (logCall T out s).answers = s.answers.tail := rfl
@[simp] theorem logCall_draws (T : Txn) (out : Answer) (s : State) : (logCall T out s).draws = s.draws + 1 := rfl

/-! ### receive -/

@[simp] theorem receive_cfg (k n : Nat) (out : Answer) (s : State) : (receive k n out s).cfg = s.cfg := rfl
@[simp] theorem receive_code (k n : Nat) (out : Answer) (s : State) : (receive k n out s).code = s.code := rfl
@[simp] theorem receive_mreason (k n : Nat) (out : Answer) (s : State) : (receive k n out s).mreason = s.mreason := rfl
@[simp] theorem receive_sticky (k n : Nat) (out : Answer) (s : State) : (receive k n out s).sticky = s.sticky := rfl
@[simp] theorem receive_bph (k n : Nat) (out : Answer) (s : State) : (receive k n out s).bph = s.bph := rfl
@[simp] theorem receive_buf (k n : Nat) (out : Answer) (s : State) : (receive k n out s).buf = s.buf := rfl
@[simp] theorem receive_bn (k n : Nat) (out : Answer) (s : State) : (receive k n out s).bn = s.bn := rfl
@[simp] theorem receive_bnr (k n : Nat) (out : Answer) (s : State) : (receive k n out s).bnr = s.bnr := rfl
@[simp] theorem receive_wf (k n : Nat) (out : Answer) (s : State) : (receive k n out s).wf = s.wf := rfl
@[simp] theorem receive_rdata (k n : Nat) (out : Answer) (s : State) : (receive k n out s).rdata = slotsAfter k n s out := rfl
@[simp] theorem receive_rdCount (k n : Nat) (out : Answer) (s : State) : (receive k n out s).rdCount = countAfter n out := rfl
@[simp] theorem receive_rdataV (k n : Nat) (out : Answer) (s : State) : (receive k n out s).rdataV = validAfter out := rfl
@[simp] theorem receive_accelV (k n : Nat) (out : Answer) (s : State) : (receive k n out s).accelV = s.accelV := rfl
@[simp] theorem receive_tempV (k n : Nat) (out : Answer) (s : State) : (receive k n out s).tempV = s.tempV := rfl
@[simp] theorem receive_accelXRaw (k n : Nat) (out : Answer) (s : State) : (receive k n out s).accelXRaw = s.accelXRaw := rfl
@[simp] theorem receive_tempRaw (k n : Nat) (out : Answer) (s : State) : (receive k n out s).tempRaw = s.tempRaw := rfl
@[simp] theorem receive_tempC (k n : Nat) (out : Answer) (s : State) : (receive k n out s).tempC = s.tempC := rfl
@[simp] theorem receive_busLog (k n : Nat) (out : Answer) (s : State) : (receive k n out s).busLog = s.busLog := rfl
@[simp] theorem receive_host (k n : Nat) (out : Answer) (s : State) : (receive k n out s).host = s.host := rfl
@[simp] theorem receive_readLog (k n : Nat) (out : Answer) (s : State) : (receive k n out s).readLog = s.readLog := rfl
@[simp] theorem receive_answers (k n : Nat) (out : Answer) (s : State) : (receive k n out s).answers = s.answers := rfl
@[simp] theorem receive_draws (k n : Nat) (out : Answer) (s : State) : (receive k n out s).draws = s.draws := rfl

/-! ### loadTxn -/

@[simp] theorem loadTxn_cfg (T : Txn) (s : State) : (loadTxn T s).cfg = s.cfg := rfl
@[simp] theorem loadTxn_code (T : Txn) (s : State) : (loadTxn T s).code = s.code := rfl
@[simp] theorem loadTxn_mreason (T : Txn) (s : State) : (loadTxn T s).mreason = s.mreason := rfl
@[simp] theorem loadTxn_sticky (T : Txn) (s : State) : (loadTxn T s).sticky = s.sticky := rfl
@[simp] theorem loadTxn_bph (T : Txn) (s : State) : (loadTxn T s).bph = .stopped := rfl
@[simp] theorem loadTxn_buf (T : Txn) (s : State) : (loadTxn T s).buf = T ++ s.buf.drop T.length := rfl
@[simp] theorem loadTxn_bn (T : Txn) (s : State) : (loadTxn T s).bn = T.length := rfl
@[simp] theorem loadTxn_bnr (T : Txn) (s : State) : (loadTxn T s).bnr = countReads T := rfl
@[simp] theorem loadTxn_wf (T : Txn) (s : State) : (loadTxn T s).wf = s.wf := rfl
@[simp] theorem loadTxn_rdata (T : Txn) (s : State) : (loadTxn T s).rdata = s.rdata := rfl
@[simp] theorem loadTxn_rdCount (T : Txn) (s : State) : (loadTxn T s).rdCount = s.rdCount := rfl
@[simp] theorem loadTxn_rdataV (T : Txn) (s : State) : (loadTxn T s).rdataV = s.rdataV := rfl
@[simp] theorem loadTxn_accelV (T : Txn) (s : State) : (loadTxn T s).accelV = s.accelV := rfl
@[simp] theorem loadTxn_tempV (T : Txn) (s : State) : (loadTxn T s).tempV = s.tempV := rfl
@[simp] theorem loadTxn_accelXRaw (T : Txn) (s : State) : (loadTxn T s).accelXRaw = s.accelXRaw := rfl
@[simp] theorem loadTxn_tempRaw (T : Txn) (s : State) : (loadTxn T s).tempRaw = s.tempRaw := rfl
@[simp] theorem loadTxn_tempC (T : Txn) (s : State) : (loadTxn T s).tempC = s.tempC := rfl
@[simp] theorem loadTxn_busLog (T : Txn) (s : State) : (loadTxn T s).busLog = s.busLog := rfl
@[simp] theorem loadTxn_host (T : Txn) (s : State) : (loadTxn T s).host = s.host := rfl
@[simp] theorem loadTxn_readLog (T : Txn) (s : State) : (loadTxn T s).readLog = s.readLog := rfl
@[simp] theorem loadTxn_answers (T : Txn) (s : State) : (loadTxn T s).answers = s.answers := rfl
@[simp] theorem loadTxn_draws (T : Txn) (s : State) : (loadTxn T s).draws = s.draws := rfl

/-! ### setWf -/

@[simp] theorem setWf_cfg (w : Workflow) (s : State) : (setWf w s).cfg = s.cfg := rfl
@[simp] theorem setWf_code (w : Workflow) (s : State) : (setWf w s).code = s.code := rfl
@[simp] theorem setWf_mreason (w : Workflow) (s : State) : (setWf w s).mreason = s.mreason := rfl
@[simp] theorem setWf_sticky (w : Workflow) (s : State) : (setWf w s).sticky = s.sticky := rfl
@[simp] theorem setWf_bph (w : Workflow) (s : State) : (setWf w s).bph = s.bph := rfl
@[simp] theorem setWf_buf (w : Workflow) (s : State) : (setWf w s).buf = s.buf := rfl
@[simp] theorem setWf_bn (w : Workflow) (s : State) : (setWf w s).bn = s.bn := rfl
@[simp] theorem setWf_bnr (w : Workflow) (s : State) : (setWf w s).bnr = s.bnr := rfl
@[simp] theorem setWf_wf (w : Workflow) (s : State) : (setWf w s).wf = w := rfl
@[simp] theorem setWf_rdata (w : Workflow) (s : State) : (setWf w s).rdata = s.rdata := rfl
@[simp] theorem setWf_rdCount (w : Workflow) (s : State) : (setWf w s).rdCount = s.rdCount := rfl
@[simp] theorem setWf_rdataV (w : Workflow) (s : State) : (setWf w s).rdataV = s.rdataV := rfl
@[simp] theorem setWf_accelV (w : Workflow) (s : State) : (setWf w s).accelV = s.accelV := rfl
@[simp] theorem setWf_tempV (w : Workflow) (s : State) : (setWf w s).tempV = s.tempV := rfl
@[simp] theorem setWf_accelXRaw (w : Workflow) (s : State) : (setWf w s).accelXRaw = s.accelXRaw := rfl
@[simp] theorem setWf_tempRaw (w : Workflow) (s : State) : (setWf w s).tempRaw = s.tempRaw := rfl
@[simp] theorem setWf_tempC (w : Workflow) (s : State) : (setWf w s).tempC = s.tempC := rfl
@[simp] theorem setWf_busLog (w : Workflow) (s : State) : (setWf w s).busLog = s.busLog := rfl
@[simp] theorem setWf_host (w : Workflow) (s : State) : (setWf w s).host = s.host := rfl
@[simp] theorem setWf_readLog (w : Workflow) (s : State) : (setWf w s).readLog = s.readLog := rfl
@[simp] theorem setWf_answers (w : Workflow) (s : State) : (setWf w s).answers = s.answers := rfl
@[simp] theorem setWf_draws (w : Workflow) (s : State) : (setWf w s).draws = s.draws := rfl

/-! ### storeAccel -/

@[simp] theorem storeAccel_cfg (s : State) : (storeAccel s).cfg = s.cfg := rfl
@[simp] theorem storeAccel_code (s : State) : (storeAccel s).code = s.code := rfl
@[simp] theorem storeAccel_mreason (s : State) : (storeAccel s).mreason = s.mreason := rfl
@[simp] theorem storeAccel_sticky (s : State) : (storeAccel s).sticky = s.sticky := rfl
@[simp] theorem storeAccel_bph (s : State) : (storeAccel s).bph = s.bph := rfl
@[simp] theorem storeAccel_buf (s : State) : (storeAccel s).buf = s.buf := rfl
@[simp] theorem storeAccel_bn (s : State) : (storeAccel s).bn = s.bn := rfl
@[simp] theorem storeAccel_bnr (s : State) : (storeAccel s).bnr = s.bnr := rfl
@[simp] theorem storeAccel_wf (s : State) : (storeAccel s).wf = s.wf := rfl
@[simp] theorem storeAccel_rdata (s : State) : (storeAccel s).rdata = s.rdata := rfl
@[simp] theorem storeAccel_rdCount (s : State) : (storeAccel s).rdCount = s.rdCount := rfl
@[simp] theorem storeAccel_rdataV (s : State) : (storeAccel s).rdataV = s.rdataV := rfl
@[simp] theorem storeAccel_accelV (s : State) : (storeAccel s).accelV = true := rfl
@[simp] theorem storeAccel_tempV (s : State) : (storeAccel s).tempV = s.tempV := rfl
@[simp] theorem storeAccel_accelXRaw (s : State) : (storeAccel s).accelXRaw = sample s := rfl
@[simp] theorem storeAccel_tempRaw (s : State) : (storeAccel s).tempRaw = s.tempRaw := rfl
@[simp] theorem storeAccel_tempC (s : State) : (storeAccel s).tempC = s.tempC := rfl
@[simp] theorem storeAccel_busLog (s : State) : (storeAccel s).busLog = s.busLog := rfl
@[simp] theorem storeAccel_host (s : State) : (storeAccel s).host = s.host := rfl
@[simp] theorem storeAccel_readLog (s : State) : (storeAccel s).readLog = s.readLog := rfl
@[simp] theorem storeAccel_answers (s : State) : (storeAccel s).answers = s.answers := rfl
@[simp] theorem storeAccel_draws (s : State) : (storeAccel s).draws = s.draws := rfl

/-! ### dropAccel -/

@[simp] theorem dropAccel_cfg (s : State) : (dropAccel s).cfg = s.cfg := rfl
@[simp] theorem dropAccel_code (s : State) : (dropAccel s).code = s.code := rfl
@[simp] theorem dropAccel_mreason (s : State) : (dropAccel s).mreason = s.mreason := rfl
@[simp] theorem dropAccel_sticky (s : State) : (dropAccel s).sticky = s.sticky := rfl
@[simp] theorem dropAccel_bph (s : State) : (dropAccel s).bph = s.bph := rfl
@[simp] theorem dropAccel_buf (s : State) : (dropAccel s).buf = s.buf := rfl
@[simp] theorem dropAccel_bn (s : State) : (dropAccel s).bn = s.bn := rfl
@[simp] theorem dropAccel_bnr (s : State) : (dropAccel s).bnr = s.bnr := rfl
@[simp] theorem dropAccel_wf (s : State) : (dropAccel s).wf = s.wf := rfl
@[simp] theorem dropAccel_rdata (s : State) : (dropAccel s).rdata = s.rdata := rfl
@[simp] theorem dropAccel_rdCount (s : State) : (dropAccel s).rdCount = s.rdCount := rfl
@[simp] theorem dropAccel_rdataV (s : State) : (dropAccel s).rdataV = s.rdataV := rfl
@[simp] theorem dropAccel_accelV (s : State) : (dropAccel s).accelV = false := rfl
@[simp] theorem dropAccel_tempV (s : State) : (dropAccel s).tempV = s.tempV := rfl
@[simp] theorem dropAccel_accelXRaw (s : State) : (dropAccel s).accelXRaw = s.accelXRaw := rfl
@[simp] theorem dropAccel_tempRaw (s : State) : (dropAccel s).tempRaw = s.tempRaw := rfl
@[simp] theorem dropAccel_tempC (s : State) : (dropAccel s).tempC = s.tempC := rfl
@[simp] theorem dropAccel_busLog (s : State) : (dropAccel s).busLog = s.busLog := rfl
@[simp] theorem dropAccel_host (s : State) : (dropAccel s).host = s.host := rfl
@[simp] theorem dropAccel_readLog (s : State) : (dropAccel s).readLog = s.readLog := rfl
@[simp] theorem dropAccel_answers (s : State) : (dropAccel s).answers = s.answers := rfl
@[simp] theorem dropAccel_draws (s : State) : (dropAccel s).draws = s.draws := rfl

/-! ### storeTemp -/

@[simp] theorem storeTemp_cfg (s : State) : (storeTemp s).cfg = s.cfg := rfl
@[simp] theorem storeTemp_code (s : State) : (storeTemp s).code = s.code := rfl
@[simp] theorem storeTemp_mreason (s : State) : (storeTemp s).mreason = s.mreason := rfl
@[simp] theorem storeTemp_sticky (s : State) : (storeTemp s).sticky = s.sticky := rfl
@[simp] theorem storeTemp_bph (s : State) : (storeTemp s).bph = s.bph := rfl
@[simp] theorem storeTemp_buf (s : State) : (storeTemp s).buf = s.buf := rfl
@[simp] theorem storeTemp_bn (s : State) : (storeTemp s).bn = s.bn := rfl
@[simp] theorem storeTemp_bnr (s : State) : (storeTemp s).bnr = s.bnr := rfl
@[simp] theorem storeTemp_wf (s : State) : (storeTemp s).wf = s.wf := rfl
@[simp] theorem storeTemp_rdata (s : State) : (storeTemp s).rdata = s.rdata := rfl
@[simp] theorem storeTemp_rdCount (s : State) : (storeTemp s).rdCount = s.rdCount := rfl
@[simp] theorem storeTemp_rdataV (s : State) : (storeTemp s).rdataV = s.rdataV := rfl
@[simp] theorem storeTemp_accelV (s : State) : (storeTemp s).accelV = s.accelV := rfl
@[simp] theorem storeTemp_tempV (s : State) : (storeTemp s).tempV = true := rfl
@[simp] theorem storeTemp_accelXRaw (s : State) : (storeTemp s).accelXRaw = s.accelXRaw := rfl
@[simp] theorem storeTemp_tempRaw (s : State) : (storeTemp s).tempRaw = sample s := rfl
@[simp] theorem storeTemp_tempC (s : State) : (storeTemp s).tempC = celsius s.cfg (sample s) := rfl
@[simp] theorem storeTemp_busLog (s : State) : (storeTemp s).busLog = s.busLog := rfl
@[simp] theorem storeTemp_host (s : State) : (storeTemp s).host = s.host := rfl
@[simp] theorem storeTemp_readLog (s : State) : (storeTemp s).readLog = s.readLog := rfl
@[simp] theorem storeTemp_answers (s : State) : (storeTemp s).answers = s.answers := rfl
@[simp] theorem storeTemp_draws (s : State) : (storeTemp s).draws = s.draws := rfl

/-! ### dropTemp -/

@[simp] theorem dropTemp_cfg (s : State) : (dropTemp s).cfg = s.cfg := rfl
@[simp] theorem dropTemp_code (s : State) : (dropTemp s).code = s.code := rfl
@[simp] theorem dropTemp_mreason (s : State) : (dropTemp s).mreason = s.mreason := rfl
@[simp] theorem dropTemp_sticky (s : State) : (dropTemp s).sticky = s.sticky := rfl
@[simp] theorem dropTemp_bph (s : State) : (dropTemp s).bph = s.bph := rfl
@[simp] theorem dropTemp_buf (s : State) : (dropTemp s).buf = s.buf := rfl
@[simp] theorem dropTemp_bn (s : State) : (dropTemp s).bn = s.bn := rfl
@[simp] theorem dropTemp_bnr (s : State) : (dropTemp s).bnr = s.bnr := rfl
@[simp] theorem dropTemp_wf (s : State) : (dropTemp s).wf = s.wf := rfl
@[simp] theorem dropTemp_rdata (s : State) : (dropTemp s).rdata = s.rdata := rfl
@[simp] theorem dropTemp_rdCount (s : State) : (dropTemp s).rdCount = s.rdCount := rfl
@[simp] theorem dropTemp_rdataV (s : State) : (dropTemp s).rdataV = s.rdataV := rfl
@[simp] theorem dropTemp_accelV (s : State) : (dropTemp s).accelV = s.accelV := rfl
@[simp] theorem dropTemp_tempV (s : State) : (dropTemp s).tempV = false := rfl
@[simp] theorem dropTemp_accelXRaw (s : State) : (dropTemp s).accelXRaw = s.accelXRaw := rfl
@[simp] theorem dropTemp_tempRaw (s : State) : (dropTemp s).tempRaw = s.tempRaw := rfl
@[simp] theorem dropTemp_tempC (s : State) : (dropTemp s).tempC = s.tempC := rfl
@[simp] theorem dropTemp_busLog (s : State) : (dropTemp s).busLog = s.busLog := rfl
@[simp] theorem dropTemp_host (s : State) : (dropTemp s).host = s.host := rfl
@[simp] theorem dropTemp_readLog (s : State) : (dropTemp s).readLog = s.readLog := rfl
@[simp] theorem dropTemp_answers (s : State) : (dropTemp s).answers = s.answers := rfl
@[simp] theorem dropTemp_draws (s : State) : (dropTemp s).draws = s.draws := rfl

/-! ### popInput -/

@[simp] theorem popInput_cfg (s : State) : (popInput s).cfg = s.cfg := rfl
@[simp] theorem popInput_code (s : State) : (popInput s).code = s.code := rfl
@[simp] theorem popInput_mreason (s : State) : (popInput s).mreason = s.mreason := rfl
@[simp] theorem popInput_sticky (s : State) : (popInput s).sticky = s.sticky := rfl
@[simp] theorem popInput_bph (s : State) : (popInput s).bph = s.bph := rfl
@[simp] theorem popInput_buf (s : State) : (popInput s).buf = s.buf := rfl
@[simp] theorem popInput_bn (s : State) : (popInput s).bn = s.bn := rfl
@[simp] theorem popInput_bnr (s : State) : (popInput s).bnr = s.bnr := rfl
@[simp] theorem popInput_wf (s : State) : (popInput s).wf = s.wf := rfl
@[simp] theorem popInput_rdata (s : State) : (popInput s).rdata = s.rdata := rfl
@[simp] theorem popInput_rdCount (s : State) : (popInput s).rdCount = s.rdCount := rfl
@[simp] theorem popInput_rdataV (s : State) : (popInput s).rdataV = s.rdataV := rfl
@[simp] theorem popInput_accelV (s : State) : (popInput s).accelV = s.accelV := rfl
@[simp] theorem popInput_tempV (s : State) : (popInput s).tempV = s.tempV := rfl
@[simp] theorem popInput_accelXRaw (s : State) : (popInput s).accelXRaw = s.accelXRaw := rfl
@[simp] theorem popInput_tempRaw (s : State) : (popInput s).tempRaw = s.tempRaw := rfl
@[simp] theorem popInput_tempC (s : State) : (popInput s).tempC = s.tempC := rfl
@[simp] theorem popInput_busLog (s : State) : (popInput s).busLog = s.busLog := rfl
@[simp] theorem popInput_host (s : State) : (popInput s).host = s.host.tail := rfl
@[simp] theorem popInput_readLog (s : State) : (popInput s).readLog = s.readLog := rfl
@[simp] theorem popInput_answers (s : State) : (popInput s).answers = s.answers := rfl
@[simp] theorem popInput_draws (s : State) : (popInput s).draws = s.draws := rfl

/-! ### pushWord -/

@[simp] theorem pushWord_cfg (w : CmdWord) (s : State) : (pushWord w s).cfg = s.cfg := rfl
@[simp] theorem pushWord_code (w : CmdWord) (s : State) : (pushWord w s).code = s.code := rfl
@[simp] theorem pushWord_mreason (w : CmdWord) (s : State) : (pushWord w s).mreason = s.mreason := rfl
@[simp] theorem pushWord_sticky (w : CmdWord) (s : State) : (pushWord w s).sticky = s.sticky := rfl
@[simp] theorem pushWord_bph (w : CmdWord) (s : State) : (pushWord w s).bph = s.bph := rfl
@[simp] theorem pushWord_buf (w : CmdWord) (s : State) : (pushWord w s).buf = s.buf := rfl
@[simp] theorem pushWord_bn (w : CmdWord) (s : State) : (pushWord w s).bn = s.bn := rfl
@[simp] theorem pushWord_bnr (w : CmdWord) (s : State) : (pushWord w s).bnr = s.bnr := rfl
@[simp] theorem pushWord_wf (w : CmdWord) (s : State) : (pushWord w s).wf = s.wf := rfl
@[simp] theorem pushWord_rdata (w : CmdWord) (s : State) : (pushWord w s).rdata = s.rdata := rfl
@[simp] theorem pushWord_rdCount (w : CmdWord) (s : State) : (pushWord w s).rdCount = s.rdCount := rfl
@[simp] theorem pushWord_rdataV (w : CmdWord) (s : State) : (pushWord w s).rdataV = s.rdataV := rfl
@[simp] theorem pushWord_accelV (w : CmdWord) (s : State) : (pushWord w s).accelV = s.accelV := rfl
@[simp] theorem pushWord_tempV (w : CmdWord) (s : State) : (pushWord w s).tempV = s.tempV := rfl
@[simp] theorem pushWord_accelXRaw (w : CmdWord) (s : State) : (pushWord w s).accelXRaw = s.accelXRaw := rfl
@[simp] theorem pushWord_tempRaw (w : CmdWord) (s : State) : (pushWord w s).tempRaw = s.tempRaw := rfl
@[simp] theorem pushWord_tempC (w : CmdWord) (s : State) : (pushWord w s).tempC = s.tempC := rfl
@[simp] theorem pushWord_busLog (w : CmdWord) (s : State) : (pushWord w s).busLog = s.busLog := rfl
@[simp] theorem pushWord_host (w : CmdWord) (s : State) : (pushWord w s).host = .command w :: s.host := rfl
@[simp] theorem pushWord_readLog (w : CmdWord) (s : State) : (pushWord w s).readLog = s.readLog := rfl
@[simp] theorem pushWord_answers (w : CmdWord) (s : State) : (pushWord w s).answers = s.answers := rfl
@[simp] theorem pushWord_draws (w : CmdWord) (s : State) : (pushWord w s).draws = s.draws := rfl

/-! ### The derived finishes -/

@[simp] theorem finish_eq (c : StatusCode) (s : State) : finish c s = setStatus c .none s := rfl

@[simp] theorem malformed_eq (r : MReason) (s : State) : malformed r s = setStatus .malformed r (discardTxn s) := rfl

/-! ### The open transaction -/

@[simp] theorem openTxn_setStatus (c : StatusCode) (r : MReason) (s : State) : openTxn (setStatus c r s) = openTxn s := rfl

@[simp] theorem openTxn_setPhase (p : Phase) (s : State) : openTxn (setPhase p s) = openTxn s := rfl

@[simp] theorem openTxn_discardTxn (s : State) : openTxn (discardTxn s) = [] := rfl

@[simp] theorem openTxn_loadTxn (T : Txn) (s : State) : openTxn (loadTxn T s) = T := by
  simp [openTxn]

theorem openTxn_appendElement (e : Element) (s : State) (h : s.bn < s.buf.length) :
    openTxn (appendElement e s) = openTxn s ++ [e] := by
  simp only [openTxn, appendElement_buf, appendElement_bn]
  rw [List.take_add_one, List.take_set_of_le (Nat.le_refl _)]
  simp [h]

end Sys2Proof.Machine
end

