-- ==== Sys2Proof/Laws/Ops.lean ====
section
/-! SUPPORT. One lemma per shared operation: everything it can do. Later proofs cite these and do not unfold the operation. -/

namespace Sys2Proof.Machine

/-! ### The transport (R152, R153) -/

theorem freeAnswer_admissible (k : Nat) (T : Txn) (timeout : Nat) : admissible T (freeAnswer k T timeout) = true := by
  unfold freeAnswer
  split
  · assumption
  · rfl

/-- Every answer drawn is one R153 admits. -/
theorem transportAnswer_admissible (s : State) (T : Txn) : admissible T (transportAnswer s T) = true := by
  unfold transportAnswer
  split
  · exact freeAnswer_admissible _ _ _
  · split
    · assumption
    · exact freeAnswer_admissible _ _ _

/-- A pending answer that R153 admits is the one drawn. -/
theorem transportAnswer_of_pending {s : State} {T : Txn} {a : Answer} {rest : List Answer} (h : s.answers = a :: rest)
    (ha : admissible T a = true) : transportAnswer s T = a := by
  simp [transportAnswer, h, ha]

theorem answerCode_ok_iff (out : Answer) : answerCode out = .ok ↔ ∃ d, out = .ok d := by
  cases out <;> simp [answerCode]

/-- The code of an answer is one of three (R160). -/
theorem answerCode_cases (out : Answer) : answerCode out = .ok ∨ answerCode out = .busNack ∨ answerCode out = .busTimeout := by
  cases out <;> simp [answerCode]

/-! ### Read slots (R157) -/

@[simp] theorem fillSlots_length (n : Nat) (d old : List Byte) : (fillSlots n d old).length = old.length := by
  simp [fillSlots]

theorem fillSlots_getElem? (n : Nat) (d old : List Byte) (k : Nat) :
    (fillSlots n d old)[k]? = (old[k]?).map fun b => if k < n then d.getD k b else b := by
  simp [fillSlots, List.getElem?_mapIdx]

@[simp] theorem fillSlots_zero (d old : List Byte) : fillSlots 0 d old = old := by
  apply List.ext_getElem?
  intro k
  simp [fillSlots_getElem?]

@[simp] theorem freeSlots_length (k cap : Nat) : (freeSlots k cap).length = cap := by
  simp [freeSlots]

theorem slotsAfter_length (k n : Nat) (s : State) (out : Answer) (h : s.rdata.length = s.cfg.rdCap) :
    (slotsAfter k n s out).length = s.cfg.rdCap := by
  cases out <;> simp [slotsAfter, h]

/-! ### Building (R113, R114) -/

/-- `BuilderStep` refuses for the table's reason, refuses for capacity, or appends and goes on. -/
theorem builderStep_cases (c : BuilderCmd) (s : State) :
    (∃ r, transTable s.bph c = .bad r ∧ builderStep c s = malformed r s) ∨
    (∃ p, transTable s.bph c = .next p ∧ overCapacity (elementOf s.cfg c) s = true ∧
      builderStep c s = malformed .capacity s) ∨
    (∃ p, transTable s.bph c = .next p ∧ overCapacity (elementOf s.cfg c) s = false ∧
      builderStep c s = finish .ok (setPhase p (appendElement (elementOf s.cfg c) s))) := by
  unfold builderStep
  split
  · exact .inl ⟨_, ‹_›, rfl⟩
  · split
    · exact .inr (.inl ⟨_, ‹_›, ‹_›, rfl⟩)
    · next hover => exact .inr (.inr ⟨_, ‹_›, by simpa using hover, rfl⟩)

/-- Room for an element: below both capacities (R114). -/
theorem overCapacity_eq_false (e : Element) (s : State) :
    overCapacity e s = false ↔ s.bn < s.cfg.txnCap ∧ (isRead e = true → s.bnr < s.cfg.rdCap) := by
  simp [overCapacity]

theorem countReads_append (T U : Txn) : countReads (T ++ U) = countReads T + countReads U := by
  induction T with
  | nil => simp [countReads]
  | cons e T ih => cases e <;> simp [countReads, ih]; omega

theorem countReads_singleton (e : Element) : countReads [e] = if isRead e then 1 else 0 := by
  cases e <;> simp [countReads, isRead]

/-! ### The transport call (R151, R182) -/

/-- `RunTxn`: one answer that R153 admits decides the state and the code. -/
theorem runTxn_cases (s : State) :
    ∃ out, admissible (openTxn s) out = true ∧ runTxn s = (runWith out s, answerCode out) :=
  ⟨_, transportAnswer_admissible s _, rfl⟩

/-- `SeqTxn(T)`: one answer that R153 admits to `T` decides the state and the code. -/
theorem seqTxn_cases (T : Txn) (s : State) :
    ∃ out, admissible T out = true ∧ seqTxn T s = (runWith out (loadTxn T s), answerCode out) := by
  obtain ⟨out, ha, h⟩ := runTxn_cases (loadTxn T s)
  exact ⟨out, by simpa using ha, h⟩

/-- `SeqTxn(T)` when the pending answer is one R153 admits to `T`. -/
theorem seqTxn_of_pending {T : Txn} {s : State} {a : Answer} {rest : List Answer} (h : s.answers = a :: rest)
    (ha : admissible T a = true) : seqTxn T s = (runWith a (loadTxn T s), answerCode a) := by
  have ht : transportAnswer (loadTxn T s) (openTxn (loadTxn T s)) = a :=
    transportAnswer_of_pending (rest := rest) (by simpa using h) (by simpa using ha)
  simp only [seqTxn, runTxn, ht]

/-- What a sequencer transaction leaves: every field at once. -/
theorem runWith_loadTxn (T : Txn) (out : Answer) (s : State) :
    runWith out (loadTxn T s) =
      { s with
        bph := .closed, buf := T ++ s.buf.drop T.length, bn := 0, bnr := 0
        busLog := s.busLog ++ [(T, out)], answers := s.answers.tail, draws := s.draws + 1
        rdata := slotsAfter s.draws (countReads T) s out
        rdCount := countAfter (countReads T) out, rdataV := validAfter out } := by
  have h : openTxn (loadTxn T s) = T := openTxn_loadTxn T s
  simp only [runWith, h]
  cases out <;> rfl

/-! ### Sequencer commands (R181, R189, R197) -/

theorem unlessBusy_cases (f : State → State) (s : State) :
    (s.bph = .closed ∧ unlessBusy f s = f s) ∨ (s.bph ≠ .closed ∧ unlessBusy f s = finish .busy s) := by
  unfold unlessBusy
  split
  · exact .inl ⟨‹_›, rfl⟩
  · exact .inr ⟨‹_›, rfl⟩

/-- The register writes of CONFIGURE: done; or the first write answered and the rest follow if it succeeded. -/
theorem writeRegs_cons (rv : Byte × Byte) (l : List (Byte × Byte)) (s : State) :
    ∃ out, admissible (txnCfg s.cfg rv.1 rv.2) out = true ∧
      writeRegs (rv :: l) s =
        if answerCode out = .ok then writeRegs l (runWith out (loadTxn (txnCfg s.cfg rv.1 rv.2) s))
        else (runWith out (loadTxn (txnCfg s.cfg rv.1 rv.2) s), answerCode out) := by
  obtain ⟨out, ha, h⟩ := seqTxn_cases (txnCfg s.cfg rv.1 rv.2) s
  exact ⟨out, ha, by simp only [writeRegs, h]⟩

/-- The code of the register writes is an answer's. -/
theorem writeRegs_code (l : List (Byte × Byte)) (s : State) :
    (writeRegs l s).2 = .ok ∨ (writeRegs l s).2 = .busNack ∨ (writeRegs l s).2 = .busTimeout := by
  induction l generalizing s with
  | nil => exact .inl rfl
  | cons rv l ih =>
    obtain ⟨out, -, h⟩ := writeRegs_cons rv l s
    rw [h]
    split
    · exact ih _
    · exact answerCode_cases out

/-! ### Host inputs -/

/-- A step on a pending command word that decodes (R80, R85). -/
theorem step_command {s : State} {w : CmdWord} {rest : List HostInput} {i : Instr} (h : s.host = .command w :: rest)
    (hd : decode w = .command i) : step s = exec i (popInput s) := by
  simp [step, nextInput, h, hd]

/-- Everything a step can do. -/
theorem step_cases (s : State) :
    (s.host = [] ∧ step s = .next s) ∨
    (∃ w i rest, s.host = .command w :: rest ∧ decode w = .command i ∧ step s = exec i (popInput s)) ∨
    (∃ w why rest, s.host = .command w :: rest ∧ decode w = .illegal why ∧ step s = .next (illegalCommand (popInput s))) ∨
    (∃ n rest, s.host = .read n :: rest ∧ step s = .next (hostRead n (popInput s))) ∨
    (∃ rest, s.host = .reset :: rest ∧ step s = .next (blockReset (popInput s))) := by
  rcases hh : s.host with _ | ⟨a, rest⟩
  · exact .inl ⟨rfl, by simp [step, nextInput, hh]⟩
  · cases a with
    | command w =>
      cases hd : decode w with
      | command i => exact .inr (.inl ⟨w, i, rest, rfl, hd, step_command hh hd⟩)
      | illegal why => exact .inr (.inr (.inl ⟨w, why, rest, rfl, hd, by simp [step, nextInput, hh, hd]⟩))
    | read n => exact .inr (.inr (.inr (.inl ⟨n, rest, rfl, by simp [step, nextInput, hh]⟩)))
    | reset => exact .inr (.inr (.inr (.inr ⟨rest, rfl, by simp [step, nextInput, hh]⟩)))

end Sys2Proof.Machine
end

