-- ==== Sys2Proof/Laws/PerInstr.lean ====
section
/-! SUPPORT. Per command: its word lies in its row of spec/opcode_table.json (R82, R84). -/

namespace Sys2Proof.Laws.TableRow

/-- `match` of the command's row. -/
def rowMatch : Instr → CmdWord
  | .beginTxn => 0x1000
  | .start => 0x2000
  | .addr _ _ => 0x3000
  | .writeByte _ _ => 0x4000
  | .readByte _ => 0x5000
  | .stop => 0x6000
  | .execute => 0x7000
  | .verifyIdentity => 0x8000
  | .configure => 0x9000
  | .readAccelX => 0xA000
  | .readTemp => 0xB000

/-- `mask` of the command's row. -/
def rowMask : Instr → CmdWord
  | .addr _ _ => 0xFEFE
  | .writeByte _ _ => 0xFE00
  | .readByte _ => 0xFEFF
  | _ => 0xFFFF

/-- The command's word, masked, is its row's match. -/
def Statement (i : Instr) : Prop := encode i &&& rowMask i = rowMatch i

theorem beginTxn : Statement .beginTxn := by unfold Statement; decide

theorem start : Statement .start := by unfold Statement; decide

theorem addr (dir : Dir) (chk : Bool) : Statement (.addr dir chk) := by
  unfold Statement
  cases dir <;> cases chk <;> decide

theorem writeByte (imm8 : Byte) (chk : Bool) : Statement (.writeByte imm8 chk) := by
  unfold Statement
  simp only [encode, packWord, rowMask, rowMatch]
  apply BitVec.eq_of_getLsbD_eq
  intro k hk
  rw [BitVec.getLsbD_and]
  interval_cases k <;> cases chk <;> simp [bitIn]

theorem readByte (pol : AckPolicy) : Statement (.readByte pol) := by
  unfold Statement
  cases pol <;> decide

theorem stop : Statement .stop := by unfold Statement; decide

theorem execute : Statement .execute := by unfold Statement; decide

theorem verifyIdentity : Statement .verifyIdentity := by unfold Statement; decide

theorem configure : Statement .configure := by unfold Statement; decide

theorem readAccelX : Statement .readAccelX := by unfold Statement; decide

theorem readTemp : Statement .readTemp := by unfold Statement; decide

end Sys2Proof.Laws.TableRow
end

