-- ==== Sys2Proof/Tests/Slice0.lean ====
section
/-! SUPPORT. Tests: the checks of WellFormed refuse ill-formed terms; words written out from 30_encoding.md decode; single steps
against the vectors of 95_test_vectors.md; and a witness for the hypotheses of each statement. -/

namespace Sys2Proof.Tests

open Sys2Proof.Machine

/-! ### Helpers -/

/-- A block with this open transaction in this phase and these answers pending. -/
def openWith (p : Phase) (T : Txn) (a : List Answer) : State :=
  { State.reset with
    bph := p
    buf := T ++ List.replicate (Config.default.txnCap - T.length) .start
    bn := T.length
    bnr := countReads T
    answers := a }

/-- A block with no transaction open, in this workflow state, with these answers pending. -/
def inWf (w : Workflow) (a : List Answer) : State := { State.reset with wf := w, answers := a }

/-- A field of the next state. -/
def after {α : Type} (f : State → α) : Host.Outcome State Fault Refusal → Option α
  | .next t => some (f t)
  | _ => none

/-- `reg(n)` of the next state, as a number. -/
def regAfter (n : Byte) : Host.Outcome State Fault Refusal → Option Nat := after fun t => (readPort t n).toNat

/-- The transaction `n` writes long that starts with a write-direction address byte. -/
def writes (n : Nat) : Txn := .start :: .wr 0xD0 true :: List.replicate n (.wr 0x00 true)

/-- The transaction of prefix X (95, 2.3). -/
def readId : Txn := [.start, .wr 0xD0 true, .wr 0x75 true, .start, .wr 0xD1 true, .rd .nack, .stop]

/-! ### WellFormed: each check refuses an ill-formed term -/

theorem test_config_default_wf : Config.default.wf = true := by decide

theorem test_config_small_txnCap : { Config.default with txnCap := 7 }.wf = false := by decide

theorem test_config_big_txnCap : { Config.default with txnCap := 256 }.wf = false := by decide

theorem test_config_small_rdCap : { Config.default with rdCap := 1 }.wf = false := by decide

theorem test_config_big_rdCap : { Config.default with rdCap := 65 }.wf = false := by decide

theorem test_txn_wf : txnWf Config.default readId = true := by decide

/-- R115 (a): START missing, STOP missing, STOP twice. -/
theorem test_txn_no_start : txnWf Config.default [.wr 0xD0 true, .stop] = false := by decide

theorem test_txn_no_stop : txnWf Config.default [.start, .wr 0xD0 true] = false := by decide

theorem test_txn_two_stops : txnWf Config.default [.start, .wr 0xD0 true, .stop, .stop] = false := by decide

/-- R115 (b): no address byte after a repeated START. -/
theorem test_txn_no_address : txnWf Config.default [.start, .wr 0xD0 true, .start, .rd .nack, .stop] = false := by decide

/-- R115 (c): a read in a write phase. -/
theorem test_txn_read_in_write : txnWf Config.default [.start, .wr 0xD0 true, .rd .nack, .stop] = false := by decide

/-- R115 (d): an empty read phase, a burst that ends on ACK, a write in a read phase. -/
theorem test_txn_empty_read : txnWf Config.default [.start, .wr 0xD1 true, .stop] = false := by decide

theorem test_txn_ack_on_last : txnWf Config.default [.start, .wr 0xD1 true, .rd .ack, .stop] = false := by decide

theorem test_txn_write_in_read :
    txnWf Config.default [.start, .wr 0xD1 true, .rd .nack, .wr 0x00 true, .stop] = false := by decide

/-- R115 (e): one element, or one read, too many. -/
theorem test_txn_too_long : txnWf Config.default (writes 14 ++ [.stop]) = false := by decide

theorem test_txn_too_many_reads :
    txnWf Config.default ([.start, .wr 0xD1 true] ++ List.replicate 8 (.rd .ack) ++ [.rd .nack, .stop]) = false := by
  decide

/-- X8, X9: answers R153 excludes and admits. -/
theorem test_answers :
    [Answer.nack 0, .nack 3, .nack 5, .nack 6, .nack 7, .ok [], .ok [1, 2]].all (fun a => !admissible readId a) = true ∧
    [Answer.nack 1, .nack 2, .nack 4, .timeout, .ok [0x68]].all (admissible readId) = true ∧
    admissible [.start, .wr 0xD0 true, .wr 0xAA false, .stop] (.nack 2) = false := by decide

/-! ### Decoding: words written out bit by bit (R82), one or more per command -/

theorem test_word_begin : decode 0b0001000000000000 = .command .beginTxn := by decide

theorem test_word_start : decode 0b0010000000000000 = .command .start := by decide

theorem test_word_addr : decode 0b0011000100000001 = .command (.addr .read true) := by decide

theorem test_word_addr_nochk : decode 0b0011000000000000 = .command (.addr .write false) := by decide

theorem test_word_write : decode 0b0100000101110101 = .command (.writeByte 0x75 true) := by decide

theorem test_word_write_nochk : decode 0b0100000011111111 = .command (.writeByte 0xFF false) := by decide

theorem test_word_read_ack : decode 0b0101000000000000 = .command (.readByte .ack) := by decide

theorem test_word_read_nack : decode 0b0101000100000000 = .command (.readByte .nack) := by decide

theorem test_word_stop : decode 0b0110000000000000 = .command .stop := by decide

theorem test_word_execute : decode 0b0111000000000000 = .command .execute := by decide

theorem test_word_verify : decode 0b1000000000000000 = .command .verifyIdentity := by decide

theorem test_word_configure : decode 0b1001000000000000 = .command .configure := by decide

theorem test_word_accel : decode 0b1010000000000000 = .command .readAccelX := by decide

theorem test_word_temp : decode 0b1011000000000000 = .command .readTemp := by decide

/-- E1, E31–E35: reserved opcodes. -/
theorem test_word_reserved_opcode :
    [0x0000#16, 0xC000#16, 0xD000#16, 0xE000#16, 0xF000#16, 0xFFFF#16].all
      (fun w => decode w == .illegal .reservedOpcode) = true := by decide

/-- E3, E4, E6, E11–E13, E17, E18, E21, E22, E25, E30: reserved bits. -/
theorem test_word_reserved_bits :
    [0x1001#16, 0x1800#16, 0x2100#16, 0x3002#16, 0x3080#16, 0x3200#16, 0x4200#16, 0x4E00#16, 0x5001#16, 0x5180#16,
      0x7FFF#16, 0xB001#16].all (fun w => decode w == .illegal .reservedBits) = true := by decide

theorem test_tableWord : decodeTableWord 16 0x4175 = some (.writeByte 0x75 true) ∧ decodeTableWord 16 0xC000 = none := by
  decide

/-- E37–E42: elements. -/
theorem test_elements :
    [Element.start, .wr 0xD0 true, .wr 0xD1 false, .wr 0xFF true, .rd .ack, .rd .nack, .stop].map elementBits =
      [0x000, 0x3D0, 0x2D1, 0x3FF, 0x400, 0x500, 0x600] := by decide

/-- E43: ADDR with another device address. -/
theorem test_addr_other_device :
    elementBits (elementOf { Config.default with devAddr := 0x69 } (.addr .write true)) = 0x3D2 := by decide

/-! ### Builder commands (95, 2.2) -/

/-- B9: BEGIN from reset. -/
theorem test_begin : after (fun t => (t.bph, t.bn, t.code)) (exec .beginTxn State.reset) = some (.empty, 0, .ok) := by
  decide

/-- B31: a repeated START. -/
theorem test_start_repeated :
    after (fun t => (t.bph, openTxn t)) (exec .start (openWith .wphase (writes 0) [])) =
      some (.afterStart, writes 0 ++ [.start]) := by decide

/-- B51: START after a burst that ends on ACK. -/
theorem test_start_ack_on_last :
    regAfter 0 (exec .start (openWith .rphaseMore [.start, .wr 0xD1 true, .rd .ack] [])) = some 0x54 := by decide

/-- R124's example. -/
theorem test_addr :
    after (fun t => (t.bph, (openTxn t).map elementBits)) (exec (.addr .read true) (openWith .afterStart [.start] [])) =
      some (.rphaseAddr, [0x000, 0x3D1]) := by decide

/-- B32. -/
theorem test_addr_misplaced :
    regAfter 0 (exec (.addr .write true) (openWith .wphase (writes 0) [])) = some 0xA4 := by decide

/-- B25: bit 0 of the byte in the address position is the direction. -/
theorem test_write_address :
    after (fun t => t.bph) (exec (.writeByte 0x3B false) (openWith .afterStart [.start] [])) = some .rphaseAddr := by
  decide

/-- K3: the capacity of elements. -/
theorem test_write_capacity : regAfter 0 (exec (.writeByte 0x00 true) (openWith .wphase (writes 14) [])) = some 0x94 := by
  decide

/-- Read-back of BSTATE after B46. -/
theorem test_read_bstate :
    regAfter 3 (exec (.readByte .ack) (openWith .rphaseAddr [.start, .wr 0xD1 true] [])) = some 0x010305 := by decide

/-- K6: the capacity of read slots. -/
theorem test_read_capacity :
    regAfter 0 (exec (.readByte .nack)
      (openWith .rphaseMore ([.start, .wr 0xD1 true] ++ List.replicate 8 (.rd .ack)) [])) = some 0x94 := by decide

/-- K1: the longest transaction that can be closed. -/
theorem test_stop_longest :
    after (fun t => (t.bph, t.bn, t.code)) (exec .stop (openWith .wphase (writes 13) [])) = some (.stopped, 16, .ok) := by
  decide

/-- K4: the table's reason comes before CAPACITY. -/
theorem test_structural_first : regAfter 0 (exec (.readByte .ack) (openWith .wphase (writes 14) [])) = some 0x44 := by
  decide

/-! ### EXECUTE (95, 2.3) -/

/-- X1: the read data. -/
theorem test_execute_ok :
    after (fun t => (t.code, t.rdata.head?, t.rdCount, t.rdataV)) (exec .execute (openWith .stopped readId [.ok [0x68]])) =
      some (.ok, some 0x68, 1, true) := by decide

/-- X1: the transaction is logged and gone. -/
theorem test_execute_log :
    after (fun t => (t.bph, t.busLog)) (exec .execute (openWith .stopped readId [.ok [0x68]])) =
      some (.closed, [(readId, .ok [0x68])]) := by decide

/-- X5. -/
theorem test_execute_timeout :
    after (fun t => (t.code, t.sticky, t.rdCount, t.rdataV)) (exec .execute (openWith .stopped readId [.timeout])) =
      some (.busTimeout, 0x04, 0, false) := by decide

/-! ### Sequencer commands (95, 2.4) -/

/-- S1. -/
theorem test_verify_ok :
    after (fun t => (t.code, t.wf, t.busLog.map Prod.fst)) (exec .verifyIdentity (inWf .uninitialized [.ok [0x68]])) =
      some (.ok, .identityVerified, [readId]) := by decide

/-- S6c. -/
theorem test_verify_mismatch :
    after (fun t => (t.code, t.wf, t.sticky)) (exec .verifyIdentity (inWf .sampling [.ok [0x00]])) =
      some (.deviceNotPresent, .uninitialized, 0x02) := by decide

/-- S9. -/
theorem test_configure_ok :
    after (fun t => (t.code, t.wf, t.busLog.length))
      (exec .configure (inWf .sampling [.ok [], .ok [], .ok [], .ok [], .ok []])) = some (.ok, .configured, 5) := by decide

/-- S11: the third write fails at its value byte. -/
theorem test_configure_third_fails :
    after (fun t => (t.code, t.wf, (t.busLog.getLast?).map fun e => (e.1.map elementBits, e.2)))
      (exec .configure (inWf .configured [.ok [], .ok [], .nack 3, .ok []])) =
    some (.busNack, .identityVerified, some ([0x000, 0x3D0, 0x31A, 0x300, 0x600], .nack 3)) := by decide

/-- S16 and Q7: zero-extended. -/
theorem test_accel : regAfter 6 (exec .readAccelX (inWf .sampling [.ok [0x80, 0x00]])) = some 0x8000 := by decide

/-- S18. -/
theorem test_accel_timeout :
    after (fun t => (t.code, t.wf, t.accelV)) (exec .readAccelX (inWf .configured [.timeout])) =
      some (.busTimeout, .configured, false) := by decide

/-- S19. -/
theorem test_temp :
    after (fun t => (t.tempRaw, t.tempC, t.tempV)) (exec .readTemp (inWf .configured [.ok [0x01, 0x54]])) =
      some (0x0154, 0x4042C3D70A3D70A4, true) := by decide +kernel

/-- T7. -/
theorem test_temp_min :
    after (fun t => t.tempC) (exec .readTemp (inWf .sampling [.ok [0x80, 0x00]])) = some 0xC04DEC5925F2BF8C := by
  decide +kernel

/-! ### Host inputs (95, 2.6) -/

/-- Q9: an illegal word with a transaction open. -/
theorem test_illegal_word :
    after (fun t => (t.code, t.bph, t.sticky))
      (step ((openWith .empty [] []).withFetchWord 16 0x9001)) = some (.illegalCommand, .empty, 0x80) := by decide

/-- The placed word is the one the next step runs. -/
theorem test_placed_word :
    after (fun t => (t.bph, t.host)) (step (State.reset.withFetchWord 16 0x1000)) = some (.empty, []) := by decide

/-- Q2, Q3: ROM and unassigned numbers. -/
theorem test_read_rom :
    [0x10#8, 0x17#8, 0x19#8, 0x1B#8, 0x1F#8, 0x3F#8, 0x48#8, 0xFF#8].map (fun n => (readPort State.reset n).toNat) =
      [0x68, 0x3B, 0x68, 0x07, 0, 0, 0, 0] := by decide

/-- Q13: reset forgets the workflow. -/
theorem test_reset_input :
    after (fun t => (t.wf, t.host)) (step { inWf .sampling [] with host := [.reset, .command 0x9000] }) =
      some (.uninitialized, [.command 0x9000]) := by decide

/-! ### Parameters (R8, R9) -/

/-- R8, R9: a width, a capacity and a divisor outside what the spec allows. -/
theorem test_config_ill_formed :
    { Config.default with devAddrW := 10 }.wf = false ∧ { Config.default with rdCap := 1 }.wf = false ∧
    { Config.default with tempDivisor := 0 }.wf = false ∧ { Config.default with tempOffset := 0x7FF0000000000000 }.wf = false := by
  decide

/-- R9: audited literals in place of the spec's: 0x0154 is 340, and 340 / 1.0 + 0.0 is 340.0. -/
theorem test_audited_literals :
    celsius { Config.default with tempDivisor := 0x3FF0000000000000, tempOffset := 0 } 0x0154 = 0x4075400000000000 := by
  decide +kernel

/-! ### Assembler (R88, R89) -/

theorem test_asm_lines :
    assembleLine Config.default "begin ; open".toList = some [.beginTxn] ∧
    assembleLine Config.default "ADDR r".toList = some [.addr .read true] ∧
    assembleLine Config.default "write_byte 255, NoChk".toList = some [.writeByte 0xFF false] ∧
    assembleLine Config.default "WRITE_BYTE 0xfF".toList = some [.writeByte 0xFF true] ∧
    assembleLine Config.default "WRITE_BYTE 256".toList = none ∧
    assembleLine Config.default "READ_BYTE".toList = none ∧
    assembleLine Config.default "WRREG 0x6B, 0x00".toList = some (wrreg 0x6B 0x00) ∧
    assembleLine Config.default "RDREG 0x3B, 9".toList = none := by decide +kernel

/-- P2's expansion of RDREG, as words. -/
theorem test_rdreg_words :
    (rdreg Config.default 0x3B 2).map (fun l => l.map encode) =
      some [0x1000, 0x2000, 0x3100, 0x413B, 0x2000, 0x3101, 0x5000, 0x5100, 0x6000, 0x7000] := by decide

/-! ### Witnesses: a state and operands that meet the hypotheses of each statement, at a boundary of each clause -/

/-- A state with this host input pending. -/
def given (h : HostInput) : State := { State.reset with host := [h] }

/-- A state of the block: prefix X built, its answer and a host input pending. -/
def builtId : State := { openWith .stopped readId [.ok [0x68]] with host := [.command 0x7000] }

theorem builtId_inv : BlockInv builtId where
  cfgWf := by decide
  bufLength := by decide
  rdataLength := by decide
  bnLe := by decide
  bnrLe := by decide
  bnrCount := by decide
  phase := by unfold PhaseOk; decide
  rdCountLe := by decide
  notValid := by decide
  reason := by decide
  stickyZero := by decide
  stickyCode := by decide
  logWf := by decide

/-- A state of the block after a boot and one sample of each kind (P1). -/
def sampled : State :=
  { State.reset with
    wf := .sampling
    accelV := true, accelXRaw := be16 0x12 0x34
    tempV := true, tempRaw := be16 0x01 0x54, tempC := celsius Config.default (be16 0x01 0x54)
    busLog := [identityEntry Config.default] ++ configEntries Config.default ++
      [(txnRd2 Config.default 0x3B, .ok [0x12, 0x34]), (txnRd2 Config.default 0x41, .ok [0x01, 0x54])]
    host := [.command 0x8000], answers := [.ok [0x68]] }

theorem sampled_history : History sampled where
  inv :=
    { cfgWf := by decide
      bufLength := by decide
      rdataLength := by decide
      bnLe := by decide
      bnrLe := by decide
      bnrCount := by decide
      phase := by unfold PhaseOk; decide
      rdCountLe := by decide
      notValid := by decide
      reason := by decide
      stickyZero := by decide
      stickyCode := by decide
      logWf := by decide }
  identity := fun _ => by decide
  config := fun _ => ⟨[identityEntry Config.default], _, rfl, by decide⟩
  accel := fun _ => ⟨0x12, 0x34, by decide, rfl⟩
  temp := fun _ => ⟨0x01, 0x54, by decide, rfl, rfl⟩

/-- DecodeOfEncode, EncodeOfDecode. -/
theorem witness_encoding :
    (Instr.writeByte 0xFF true).wf = true ∧ decode 0x41FF = .command (.writeByte 0xFF true) ∧
    decode 0xC000 = .illegal .reservedOpcode := by decide

/-- ElementForms. -/
theorem witness_element_forms :
    Config.default.devAddr = 0x68 ∧ elementBits (.wr 0xFF true) = elementBits (.wr 0xFF true) := by decide

/-- IllegalWordOnlyReports: no command has the word 0xC000. -/
theorem witness_illegal_word :
    (given (.command 0xC000)).host = .command 0xC000 :: [] ∧ ∀ i, encode i ≠ 0xC000 := by
  refine ⟨rfl, fun i => ?_⟩
  cases i with
  | addr dir chk => cases dir <;> cases chk <;> decide
  | writeByte imm8 chk => revert imm8; cases chk <;> decide
  | readByte pol => cases pol <;> decide
  | _ => decide

/-- ResetInput, HostReadHasNoSideEffect, StepRunsDecodedCommand, WaitsForACommand. -/
theorem witness_inputs :
    (given .reset).host = .reset :: [] ∧ (given (.read 0x08)).host = .read 0x08 :: [] ∧
    (given (.command 0xB000)).host = .command 0xB000 :: [] ∧ decode 0xB000 = .command .readTemp ∧
    State.reset.host = [] := by decide

/-- ReadPortMap: the first and last slot, and the unassigned numbers next to each range. -/
theorem witness_read_port :
    builtId.bn < 256 ∧ builtId.bnr < 256 ∧ builtId.rdCount < 256 ∧ State.reset.cfg.rdCap = 8 ∧
    State.reset.rdata[0x40 - 0x40]? = some 0 ∧ State.reset.rdata[0x47 - 0x40]? = some 0 ∧
    [0x09#8, 0x0F#8, 0x1F#8, 0x3F#8, 0x48#8, 0xFF#8].all (fun n =>
      decide ((0x08 < n.toNat ∧ n.toNat < 0x10) ∨ (0x1E < n.toNat ∧ n.toNat < 0x40) ∨
        0x40 + State.reset.cfg.rdCap ≤ n.toNat)) = true := by decide

/-- RomIsConstant: a step that answers. -/
theorem witness_step : ∃ t, step (given .reset) = .next t := ⟨_, rfl⟩

/-- Start-, Addr-, WriteByte-, ReadByte- and StopCommand: the phases, each open transaction with room and without. -/
theorem witness_builder :
    (openWith .empty [] []).bph = .empty ∧ (openWith .empty [] []).bn < 16 ∧
    (openWith .wphase (writes 13) []).bph = .wphase ∧ (openWith .wphase (writes 13) []).bn < 16 ∧
    (openWith .wphase (writes 14) []).bn = 16 ∧
    (openWith .afterStart [.start] []).bph = .afterStart ∧ (openWith .afterStart [.start] []).bn < 16 ∧
    (openWith .afterStart (writes 13 ++ [.start]) []).bn = 16 ∧
    (openWith .rphaseAddr [.start, .wr 0xD1 true] []).bph = .rphaseAddr ∧
    (openWith .rphaseMore ([.start, .wr 0xD1 true] ++ List.replicate 7 (.rd .ack)) []).bnr < 8 ∧
    (openWith .rphaseMore ([.start, .wr 0xD1 true] ++ List.replicate 8 (.rd .ack)) []).bnr = 8 ∧
    (openWith .rphaseAddr (writes 12 ++ [.start, .wr 0xD1 true]) []).bn = 16 ∧
    (openWith .rphaseDone [.start, .wr 0xD1 true, .rd .nack] []).bph = .rphaseDone ∧
    (openWith .rphaseDone (writes 11 ++ [.start, .wr 0xD1 true, .rd .nack]) []).bn = 16 ∧
    State.reset.bph = .closed ∧ builtId.bph = .stopped ∧ Config.default.txnCap = 16 ∧ Config.default.rdCap = 8 := by decide

/-- BuilderLeavesTheRestAlone. -/
theorem witness_builder_step : isBuilder .stop = true ∧ ∃ t, exec .stop builtId = .next t := ⟨rfl, _, rfl⟩

/-- StoppedIsWellFormed, MacrosReachTheDevice, EveryWellFormedTransactionIsBuildable, StepKeepsInv. -/
theorem witness_inv :
    BlockInv builtId ∧ builtId.bph = .stopped ∧ txnWf builtId.cfg readId = true ∧ ∃ t, step builtId = .next t :=
  ⟨builtId_inv, rfl, by decide, _, rfl⟩

/-- MacrosReachTheDevice: the shortest and the longest RDREG. -/
theorem witness_rdreg : 1 ≤ builtId.cfg.rdCap ∧ 1 + 6 ≤ builtId.cfg.txnCap ∧ 8 ≤ builtId.cfg.rdCap ∧ 8 + 6 ≤ builtId.cfg.txnCap := by
  decide

/-- ExecuteCommand: each answer, at the first and last element that requires an acknowledge. -/
theorem witness_execute :
    (openWith .stopped readId [.ok [0x68]]).bnr = countReads (openTxn (openWith .stopped readId [.ok [0x68]])) ∧
    [0x68#8].length = (openWith .stopped readId [.ok [0x68]]).bnr ∧
    (openTxn (openWith .stopped readId [.nack 1]))[1]? = some (.wr 0xD0 true) ∧
    (openTxn (openWith .stopped readId [.nack 4]))[4]? = some (.wr 0xD1 true) ∧
    (openWith .stopped readId [.timeout]).answers = .timeout :: [] ∧
    (openWith .afterStart [.start] []).bph ≠ .closed ∧ (openWith .afterStart [.start] []).bph ≠ .empty ∧
    (openWith .afterStart [.start] []).bph ≠ .stopped := by decide

/-- ExecuteTakesAnyAdmissibleAnswer, NackedPrefixEndsAtTheWrite. -/
theorem witness_answers :
    builtId.bph = .stopped ∧ admissible (openTxn builtId) (.ok [0x00]) = true ∧
    admissible readId (.nack 4) = true ∧ Received readId (.nack 4) (readId.take 5) := by
  refine ⟨rfl, by decide, by decide, rfl⟩

/-- SequencerBusy, and the sequencer clause of TemplatesAreWellFormed. -/
theorem witness_busy :
    isSequencer .configure = true ∧ builtId.bph ≠ .closed ∧ Config.default.wf = true ∧
    { Config.default with txnCap := 8, rdCap := 2 }.wf = true ∧ ∃ t, exec .configure builtId = .next t :=
  ⟨rfl, by decide, by decide, by decide, _, rfl⟩

/-- WorkflowOrderRefusals. -/
theorem witness_workflow :
    (inWf .uninitialized []).bph = .closed ∧ (inWf .uninitialized []).wf = .uninitialized ∧
    (inWf .identityVerified []).wf = .identityVerified := by decide

/-- VerifyIdentityCommand, IdentityIffExpectedByte, ConfigureWritesAllFive, ConfigureStopsAtFirstFailure (first and last
write), ReadAccelCommand, ReadTempCommand. -/
theorem witness_sequencer :
    (inWf .sampling [.ok [0x68]]).answers = .ok [(inWf .sampling []).cfg.idExpect] :: [] ∧ 0x69#8 ≠ Config.default.idExpect ∧
    1 ≤ (inWf .sampling []).rdata.length ∧ 2 ≤ (inWf .configured []).rdata.length ∧
    (inWf .sampling []).bph = .closed ∧ (inWf .identityVerified []).wf ≠ .uninitialized ∧
    (inWf .sampling [.nack 1]).answers = List.replicate 0 (.ok []) ++ .nack 1 :: [] ∧
    (inWf .sampling [.ok [], .ok [], .ok [], .ok [], .timeout]).answers = List.replicate 4 (.ok []) ++ .timeout :: [] ∧
    (inWf .sampling [.ok [], .ok [], .ok [], .ok [], .ok []]).answers =
      .ok [] :: .ok [] :: .ok [] :: .ok [] :: .ok [] :: [] ∧
    (inWf .configured []).wf = .configured ∧ (inWf .sampling []).wf = .sampling ∧
    (inWf .sampling [.ok [0x7F, 0xFF]]).answers = .ok [0x7F, 0xFF] :: [] ∧ (inWf .sampling [.nack 4]).answers = .nack 4 :: [] := by
  decide

/-- IdentityIffExpectedByte, WorkflowTransitions, CodesOfEachCommand, BusTrafficOfACommand, BusLogIsNeverRead: a step of each
shape; the codes their clauses name occur in test_verify_ok, test_verify_mismatch, test_configure_third_fails,
test_accel_timeout and witness_codes. -/
theorem witness_exec : (∃ t, exec .verifyIdentity (inWf .sampling []) = .next t) ∧ ∃ t, exec .configure (inWf .sampling []) = .next t :=
  ⟨⟨_, rfl⟩, _, rfl⟩

/-- WorkflowTransitions, CodesOfEachCommand: the remaining codes. -/
theorem witness_codes :
    after (fun t => t.code) (exec .configure builtId) = some .busy ∧
    after (fun t => t.code) (exec .readTemp (inWf .identityVerified [])) = some .workflowOrder ∧
    after (fun t => t.code) (exec .stop State.reset) = some .malformed ∧
    after (fun t => t.code) (exec .verifyIdentity (inWf .sampling [.nack 4])) = some .busNack := by decide

/-- SampleAssembly: both ends of the range. -/
theorem witness_sample : (-32768 : Int) ≤ -32768 ∧ (32767 : Int) ≤ 32767 := by decide

/-- CelsiusFiniteAndIncreasing. -/
theorem witness_celsius : (0xFFFF#16).toInt < (0x0000#16).toInt := by decide

/-- RoundingIsNearestEven: a tie, and the two patterns beside it. -/
theorem witness_rounding :
    340 ≤ (-32768 : Int).natAbs * 2 ^ 1022 ∧ (-32768 : Int).natAbs < 340 * 2 ^ 1023 ∧ expField Config.default.tempOffset ≠ 0x7FF ∧
    flFrac (2 ^ 53 + 1) 1 = 0x4340000000000000 ∧ flFrac (2 ^ 53 + 3) 1 = 0x4340000000000002 := by
  decide +kernel

/-- StepKeepsHistory. -/
theorem witness_history : History sampled ∧ ∃ t, step sampled = .next t := ⟨sampled_history, _, rfl⟩

/-- ConfigureNeedsIdentity. -/
theorem witness_configure_identity :
    IdentitySeen sampled ∧ ∃ t, exec .configure { sampled with answers := [.timeout] } = .next t ∧
      t.busLog ≠ sampled.busLog := by
  refine ⟨sampled_history.identity, _, rfl, ?_⟩
  decide

/-- StickyRecordsEveryFailure: the clauses over a command word, legal and illegal. -/
theorem witness_sticky_word :
    (given (.command 0x2000)).host = .command 0x2000 :: [] ∧ (∃ t, step (given (.command 0x2000)) = .next t) ∧
    (given (.command 0x1001)).host = .command 0x1001 :: [] ∧ commandOf (decode 0x1001) = none ∧
    ∃ t, step (given (.command 0x1001)) = .next t :=
  ⟨rfl, ⟨_, rfl⟩, rfl, by decide, _, rfl⟩

/-- CelsiusIsTheDocumentsFormula. -/
theorem witness_literals :
    Config.default.tempDivisor = 0x4075400000000000 ∧ Config.default.tempOffset = 0x404243D70A3D70A4 := ⟨rfl, rfl⟩

/-- StickyRecordsEveryFailure. -/
theorem witness_sticky :
    (∃ t, exec .start State.reset = .next t) ∧ (given (.command 0x2000)).host.head? ≠ some .reset ∧
    ({ State.reset with sticky := 0x10 }).sticky.getLsbD 4 = true ∧ (given .reset).host.head? = some .reset := by
  refine ⟨⟨_, rfl⟩, by decide, by decide, by decide⟩

/-- BufBeyondBnIsUnobservable: a state with other entries beyond `BN`. -/
theorem witness_buf :
    (readId ++ List.replicate 9 Element.stop).length = builtId.buf.length ∧
    (readId ++ List.replicate 9 Element.stop).take builtId.bn = builtId.buf.take builtId.bn ∧
    ∃ t, exec .execute builtId = .next t :=
  ⟨by decide, by decide, _, rfl⟩

end Sys2Proof.Tests
end

section
/-! Proofs of the family 00_scope: the step on a command word (R6) and the parameters (R8, R9). -/

namespace Sys2Proof.Machine

/-! ### Taking the next input -/

/-- The state with its next input taken, as the obligations write it. -/
theorem popInput_of_host_eq_cons {s : State} {a : HostInput} {rest : List HostInput} (h : s.host = a :: rest) :
    popInput s = { s with host := rest } := by
  simp [popInput, h]

/-! ### Zeros and numbers among the binary64 patterns (log 23) -/

theorem isFinite64_iff (x : BitVec 64) : isFinite64 x = true ↔ expField x ≠ 0x7FF := by
  simp [isFinite64, expField, BitVec.toNat_eq]

theorem mantOf_eq_zero_iff (x : BitVec 64) : mantOf x = 0 ↔ expField x = 0 ∧ fracField x = 0 := by
  unfold mantOf
  split <;> simp [*]

/-- Only the significand makes the exact value of a pattern zero: neither its scale nor its sign does. -/
theorem flNum_eq_zero_iff_mantOf (x : BitVec 64) : flNum x = 0 ↔ mantOf x = 0 := by
  unfold flNum
  split <;> simp

/-- The 63 bits below the sign are the exponent field followed by the fraction field. -/
theorem extractLsb'_eq_zero_iff_fields (x : BitVec 64) :
    x.extractLsb' 0 63 = 0 ↔ expField x = 0 ∧ fracField x = 0 := by
  simp only [expField, fracField, BitVec.toNat_eq, BitVec.extractLsb'_toNat, Nat.shiftRight_eq_div_pow,
    BitVec.toNat_ofNat, BitVec.ofNat_eq_ofNat]
  omega

/-- The zeros are the patterns with no bit set below the sign. -/
theorem flNum_eq_zero_iff (x : BitVec 64) : flNum x = 0 ↔ x.extractLsb' 0 63 = 0 := by
  rw [flNum_eq_zero_iff_mantOf, mantOf_eq_zero_iff, extractLsb'_eq_zero_iff_fields]

/-! ### Well-formed configurations (R8, R9) -/

theorem widthsWf_iff (c : Config) : c.widthsWf = true ↔ c.regAddrW = 8 ∧ c.devAddrW = 7 ∧ c.sampleW = 16 := by
  simp [Config.widthsWf, and_assoc]

theorem capsWf_iff (c : Config) :
    c.capsWf = true ↔ 8 ≤ c.txnCap ∧ c.txnCap ≤ 255 ∧ 2 ≤ c.rdCap ∧ c.rdCap ≤ 64 := by
  simp [Config.capsWf, and_assoc]

theorem literalsWf_iff (c : Config) :
    c.literalsWf = true ↔ expField c.tempDivisor ≠ 0x7FF ∧ flNum c.tempDivisor ≠ 0 ∧
      expField c.tempOffset ≠ 0x7FF ∧ c.tempOffset ≠ 0x8000000000000000 := by
  simp only [Config.literalsWf, Bool.and_eq_true, decide_eq_true_eq, isFinite64_iff, ne_eq, flNum_eq_zero_iff, and_assoc]

theorem config_wf_iff (c : Config) :
    c.wf = true ↔ c.widthsWf = true ∧ c.capsWf = true ∧ c.literalsWf = true := by
  simp [Config.wf, and_assoc]

/-! ### The obligations -/

/-- Settles O8: the law of a step on a command word, with the input taken written as a state. -/
theorem stepRunsDecodedCommand : Obligations.StepRunsDecodedCommand := by
  intro s w rest i hhost hdecode
  rw [step_command hhost hdecode, popInput_of_host_eq_cons hhost]

/-- Settles O55: the defaults are those written in `Config.default`; well-formedness is the conjunction of its three checks. -/
theorem parametersOfTheBlock : Obligations.ParametersOfTheBlock := by
  refine ⟨⟨rfl, rfl, rfl, rfl, rfl, rfl, rfl, rfl, rfl⟩, fun c => ?_⟩
  simp only [config_wf_iff, widthsWf_iff, capsWf_iff, literalsWf_iff, and_assoc]

end Sys2Proof.Machine
end

section
/-! Proofs of the family 10_state, first part: what a command can do before it reports (`Act`), and the report that ends it
(`Finishes`). Every invariant below follows from these two. -/

namespace Sys2Proof.Machine

open Relation (ReflTransGen)

/-! ### The acts of a command -/

/-- A transaction of the sequencer (R184–R186). -/
inductive IsTemplate (c : Config) : Txn → Prop where
  | id : IsTemplate c (txnId c)
  | cfg (r v : Byte) : IsTemplate c (txnCfg c r v)
  | rd2 (r : Byte) : IsTemplate c (txnRd2 c r)

/-- One thing a command does to the state before it reports, with what it has checked at that point. -/
inductive Act : State → State → Prop where
  | discard (s : State) : Act s (discardTxn s)
  | openEmpty (s : State) : Act s (setPhase .empty (discardTxn s))
  | append {s : State} {c : BuilderCmd} {p : Phase} (hp : transTable s.bph c = .next p)
      (hroom : overCapacity (elementOf s.cfg c) s = false) :
      Act s (setPhase p (appendElement (elementOf s.cfg c) s))
  | run {s : State} {out : Answer} (hstopped : s.bph = .stopped) (hadm : admissible (openTxn s) out = true) :
      Act s (runWith out s)
  | load {s : State} {T : Txn} (hT : IsTemplate s.cfg T) : Act s (loadTxn T s)
  | setWf (w : Workflow) (s : State) : Act s (setWf w s)
  | storeAccel (s : State) : Act s (storeAccel s)
  | dropAccel (s : State) : Act s (dropAccel s)
  | storeTemp (s : State) : Act s (storeTemp s)
  | dropTemp (s : State) : Act s (dropTemp s)

/-- A transaction of the sequencer is loaded and run (R182). -/
theorem acts_runWith_loadTxn {s : State} {T : Txn} {out : Answer} (hT : IsTemplate s.cfg T)
    (hadm : admissible T out = true) : ReflTransGen Act s (runWith out (loadTxn T s)) :=
  .tail (.single (.load hT)) (.run (by simp) (by simpa using hadm))

/-- What every act keeps, a command keeps up to its report. -/
theorem acts_keep {P : State → Prop} (hP : ∀ s t, Act s t → P s → P t) {s t : State} (h : ReflTransGen Act s t)
    (hs : P s) : P t := by
  induction h with
  | refl => exact hs
  | tail _ hact ih => exact hP _ _ hact ih

@[simp] theorem runWith_cfg (out : Answer) (s : State) : (runWith out s).cfg = s.cfg := rfl
@[simp] theorem runWith_sticky (out : Answer) (s : State) : (runWith out s).sticky = s.sticky := rfl

theorem Act.cfg_eq {s t : State} (h : Act s t) : t.cfg = s.cfg := by
  cases h <;> simp

theorem Act.sticky_eq {s t : State} (h : Act s t) : t.sticky = s.sticky := by
  cases h <;> simp

/-! ### The end of a command -/

/-- `t` ends a command begun in `s`: acts, then the report of a code of `cs`, with a reason exactly for `Malformed` (R22). -/
def Finishes (cs : List StatusCode) (s t : State) : Prop :=
  ∃ c r u, c ∈ cs ∧ (r = .none ↔ c ≠ .malformed) ∧ ReflTransGen Act s u ∧ t = setStatus c r u

theorem Finishes.after {cs : List StatusCode} {s u t : State} (hacts : ReflTransGen Act s u) (h : Finishes cs u t) :
    Finishes cs s t := by
  obtain ⟨c, r, v, hc, hr, hv, ht⟩ := h
  exact ⟨c, r, v, hc, hr, hacts.trans hv, ht⟩

theorem Finishes.after_act {cs : List StatusCode} {s u t : State} (hact : Act s u) (h : Finishes cs u t) :
    Finishes cs s t :=
  h.after (.single hact)

theorem finishes_finish {cs : List StatusCode} {c : StatusCode} (s : State) (hc : c ∈ cs) (hne : c ≠ .malformed) :
    Finishes cs s (finish c s) :=
  ⟨c, .none, s, hc, by simp [hne], .refl, rfl⟩

theorem finishes_malformed {cs : List StatusCode} {r : MReason} (s : State) (hc : StatusCode.malformed ∈ cs)
    (hr : r ≠ .none) : Finishes cs s (malformed r s) :=
  ⟨.malformed, r, _, hc, by simp [hr], .single (.discard s), rfl⟩

/-! ### Builder commands and EXECUTE -/

theorem transTable_bad_ne_none {p : Phase} {c : BuilderCmd} {r : MReason} (h : transTable p c = .bad r) : r ≠ .none := by
  rintro rfl
  cases p <;> cases c <;> simp [transTable] at h

theorem builderStep_finishes (c : BuilderCmd) (s : State) : Finishes [.ok, .malformed] s (builderStep c s) := by
  obtain ⟨r, hr, h⟩ | ⟨p, -, -, h⟩ | ⟨p, hp, hroom, h⟩ := builderStep_cases c s <;> rw [h]
  · exact finishes_malformed s (by simp) (transTable_bad_ne_none hr)
  · exact finishes_malformed s (by simp) (by simp)
  · exact .after_act (.append hp hroom) (finishes_finish _ (by simp) (by simp))

theorem answerCode_ne_malformed (out : Answer) : answerCode out ≠ .malformed := by
  cases out <;> simp [answerCode]

theorem runAndFinish_finishes {s : State} (h : s.bph = .stopped) :
    Finishes [.ok, .busNack, .busTimeout] s (runAndFinish s) := by
  obtain ⟨out, hadm, hrun⟩ := runTxn_cases s
  rw [runAndFinish, hrun]
  exact .after_act (.run h hadm) (finishes_finish _ (by simpa using answerCode_cases out) (answerCode_ne_malformed out))

theorem Finishes.mono {cs ds : List StatusCode} {s t : State} (hsub : cs ⊆ ds) (h : Finishes cs s t) :
    Finishes ds s t := by
  obtain ⟨c, r, u, hc, hrest⟩ := h
  exact ⟨c, r, u, hsub hc, hrest⟩

theorem executeTxn_finishes (s : State) : Finishes [.ok, .busNack, .busTimeout, .malformed] s (executeTxn s) := by
  unfold executeTxn
  split
  · exact finishes_malformed s (by simp) (by simp)
  · exact finishes_malformed s (by simp) (by simp)
  · next hstopped => exact (runAndFinish_finishes hstopped).mono (by simp)
  · exact finishes_malformed s (by simp) (by simp)

/-! ### Sequencer commands -/

theorem unlessBusy_finishes {cs : List StatusCode} {f : State → State} {s : State} (h : Finishes cs s (f s)) :
    Finishes (if s.bph = .closed then cs else [.busy]) s (unlessBusy f s) := by
  obtain ⟨hclosed, hf⟩ | ⟨hopen, hbusy⟩ := unlessBusy_cases f s
  · rwa [hf, if_pos hclosed]
  · rw [hbusy, if_neg hopen]
    exact finishes_finish s (by simp) (by simp)

theorem checkIdentity_finishes (s : State) : Finishes [.ok, .deviceNotPresent] s (checkIdentity s) := by
  unfold checkIdentity
  split
  · split
    · exact .after_act (.setWf _ s) (finishes_finish _ (by simp) (by simp))
    · exact finishes_finish s (by simp) (by simp)
  · exact .after_act (.setWf _ s) (finishes_finish _ (by simp) (by simp))

theorem verifyIdentity_finishes (s : State) :
    Finishes [.ok, .busNack, .busTimeout, .deviceNotPresent] s (verifyIdentity s) := by
  obtain ⟨out, hadm, hseq⟩ := seqTxn_cases (txnId s.cfg) s
  simp only [verifyIdentity, hseq]
  refine .after (acts_runWith_loadTxn .id hadm) ?_
  split
  · exact (checkIdentity_finishes _).mono (by simp)
  · refine .after_act (.setWf _ _) (finishes_finish _ ?_ (answerCode_ne_malformed out))
    rcases answerCode_cases out with h | h | h <;> simp [h]

theorem writeRegs_acts (l : List (Byte × Byte)) (s : State) : ReflTransGen Act s (writeRegs l s).1 := by
  induction l generalizing s with
  | nil => exact .refl
  | cons rv l ih =>
    obtain ⟨out, hadm, h⟩ := writeRegs_cons rv l s
    have hacts : ReflTransGen Act s (runWith out (loadTxn (txnCfg s.cfg rv.1 rv.2) s)) :=
      acts_runWith_loadTxn (.cfg _ _) hadm
    rw [h]
    split
    · exact hacts.trans (ih _)
    · exact hacts

theorem configure_finishes (s : State) :
    Finishes [.ok, .busNack, .busTimeout, .workflowOrder] s (configure s) := by
  unfold configure
  split
  · exact finishes_finish s (by simp) (by simp)
  · refine .after (writeRegs_acts (cfgList s.cfg) s) (.after_act (.setWf _ _) (finishes_finish _ ?_ ?_)) <;>
      rcases writeRegs_code (cfgList s.cfg) s with h | h | h <;> simp [h]

theorem readSample_finishes (r : Byte) {store drop : State → State} (hstore : ∀ u, Act u (store u))
    (hdrop : ∀ u, Act u (drop u)) (s : State) :
    Finishes [.ok, .busNack, .busTimeout, .workflowOrder] s (readSample r store drop s) := by
  obtain ⟨out, hadm, hseq⟩ := seqTxn_cases (txnRd2 s.cfg r) s
  simp only [readSample, hseq]
  split
  · refine .after (acts_runWith_loadTxn (.rd2 r) hadm) ?_
    split
    · exact .after_act (hstore _) (.after_act (.setWf _ _) (finishes_finish _ (by simp) (by simp)))
    · refine .after_act (hdrop _) (finishes_finish _ ?_ (answerCode_ne_malformed out))
      rcases answerCode_cases out with h | h | h <;> simp [h]
  · exact finishes_finish s (by simp) (by simp)

/-! ### All commands -/

/-- The codes a command can finish with when it is not refused as `Busy` (R23, R231). -/
def codesOf : Instr → List StatusCode
  | .beginTxn => [.ok]
  | .start | .addr _ _ | .writeByte _ _ | .readByte _ | .stop => [.ok, .malformed]
  | .execute => [.ok, .busNack, .busTimeout, .malformed]
  | .verifyIdentity => [.ok, .busNack, .busTimeout, .deviceNotPresent]
  | .configure | .readAccelX | .readTemp => [.ok, .busNack, .busTimeout, .workflowOrder]

/-- The codes a command can finish with in `s`: a sequencer command with a transaction open only with `Busy` (R181). -/
def codesIn (i : Instr) (s : State) : List StatusCode :=
  if isSequencer i = true ∧ s.bph ≠ .closed then [.busy] else codesOf i

theorem codesIn_of_sequencer {i : Instr} (s : State) (h : isSequencer i = true) :
    codesIn i s = if s.bph = .closed then codesOf i else [.busy] := by
  simp [codesIn, h]

/-- Everything a command can do: acts, then the report of one of its codes. -/
theorem exec_finishes (i : Instr) (s : State) : ∃ t, exec i s = .next t ∧ Finishes (codesIn i s) s t := by
  cases i with
  | beginTxn =>
    exact ⟨_, rfl, .after_act (.openEmpty s) (finishes_finish _ (List.mem_singleton.mpr rfl) (by simp))⟩
  | start => exact ⟨_, rfl, builderStep_finishes _ s⟩
  | addr dir chk => exact ⟨_, rfl, builderStep_finishes _ s⟩
  | writeByte imm8 chk => exact ⟨_, rfl, builderStep_finishes _ s⟩
  | readByte pol => exact ⟨_, rfl, builderStep_finishes _ s⟩
  | stop => exact ⟨_, rfl, builderStep_finishes _ s⟩
  | execute => exact ⟨_, rfl, executeTxn_finishes s⟩
  | verifyIdentity =>
    rw [codesIn_of_sequencer s rfl]
    exact ⟨_, rfl, unlessBusy_finishes (verifyIdentity_finishes s)⟩
  | configure =>
    rw [codesIn_of_sequencer s rfl]
    exact ⟨_, rfl, unlessBusy_finishes (configure_finishes s)⟩
  | readAccelX =>
    rw [codesIn_of_sequencer s rfl]
    exact ⟨_, rfl, unlessBusy_finishes (readSample_finishes _ .storeAccel .dropAccel s)⟩
  | readTemp =>
    rw [codesIn_of_sequencer s rfl]
    exact ⟨_, rfl, unlessBusy_finishes (readSample_finishes _ .storeTemp .dropTemp s)⟩

theorem finishes_of_exec {i : Instr} {s t : State} (h : exec i s = .next t) : Finishes (codesIn i s) s t := by
  obtain ⟨t', ht', hfin⟩ := exec_finishes i s
  cases ht'.symm.trans h
  exact hfin

end Sys2Proof.Machine
end

section
/-! Proofs of the family 10_state, second part: the phases an open transaction goes through (R26), and that one which ends
in `STOPPED` is well-formed (R115). -/

namespace Sys2Proof.Machine

/-! ### The scan of an open transaction -/

theorem scan_append_singleton (p : Phase) (T : Txn) (e : Element) :
    scan p (T ++ [e]) = (scan p T).bind fun q => phaseStep q e := by
  induction T generalizing p with
  | nil => cases h : phaseStep p e <;> simp [scan, h]
  | cons d T ih => cases h : phaseStep p d <;> simp [scan, h, ih]

/-- The direction bit of an address byte (R14). -/
theorem addressByte_direction (c : Config) (dir : Dir) : (addressByte c dir).getLsbD 0 = dirBit dir := by
  cases dir <;> simp [addressByte, bitIn, dirBit]

/-- The table of R113 moves to the phase R26 gives for the element appended. -/
theorem phaseStep_of_transTable {p q : Phase} {c : BuilderCmd} (cfg : Config) (h : transTable p c = .next q) :
    phaseStep p (elementOf cfg c) = some q := by
  revert h
  cases c with
  | start => cases p <;> rintro ⟨⟩ <;> rfl
  | addr dir chk =>
    cases p <;> rintro ⟨⟩
    have hb := addressByte_direction cfg dir
    cases dir <;> simp only [elementOf, phaseStep, hb] <;> rfl
  | writeByte b chk =>
    cases p <;> rintro ⟨⟩
    · cases hb : b.getLsbD 0 <;> simp only [elementOf, phaseStep, hb] <;> rfl
    · rfl
  | readByte pol => cases p <;> rintro ⟨⟩ <;> cases pol <;> rfl
  | stop => cases p <;> rintro ⟨⟩ <;> rfl

theorem transTable_closed_ne_next {q : Phase} {c : BuilderCmd} : transTable .closed c ≠ .next q := by
  simp [transTable]

/-! R26 read by element: the phases that admit it, and the phase it leads to. -/

theorem phaseStep_start {p q : Phase} :
    phaseStep p .start = some q ↔ (p = .empty ∨ p = .wphase ∨ p = .rphaseDone) ∧ q = .afterStart := by
  cases p <;> simp [phaseStep, eq_comm]

theorem phaseStep_wr {p q : Phase} {b : Byte} {chk : Bool} :
    phaseStep p (.wr b chk) = some q ↔
      p = .afterStart ∧ q = (if b.getLsbD 0 then .rphaseAddr else .wphase) ∨ p = .wphase ∧ q = .wphase := by
  cases p <;> simp [phaseStep, @eq_comm _ q]

theorem phaseStep_rd {p q : Phase} {pol : AckPolicy} :
    phaseStep p (.rd pol) = some q ↔
      (p = .rphaseAddr ∨ p = .rphaseMore) ∧ q = (if pol = .ack then .rphaseMore else .rphaseDone) := by
  cases p <;> simp [phaseStep, eq_comm]

theorem phaseStep_stop {p q : Phase} :
    phaseStep p .stop = some q ↔ (p = .wphase ∨ p = .rphaseDone) ∧ q = .stopped := by
  cases p <;> simp [phaseStep, eq_comm]

theorem phaseStep_ne_closed {p : Phase} {e : Element} : phaseStep p e ≠ some .closed := by
  cases e with
  | start => simp [phaseStep_start]
  | wr b chk => rw [ne_eq, phaseStep_wr]; cases b.getLsbD 0 <;> simp
  | rd pol => cases pol <;> simp [phaseStep_rd]
  | stop => simp [phaseStep_stop]

/-! ### A stopped transaction is well-formed (R115 (a)–(d)) -/

theorem scan_cons_eq_some {p q : Phase} {e : Element} {T : Txn} :
    scan p (e :: T) = some q ↔ ∃ r, phaseStep p e = some r ∧ scan r T = some q := by
  simp [scan, Option.bind_eq_some_iff]

/-- Nothing is admitted after a STOP (R26). -/
theorem scan_stopped_eq_some {q : Phase} {T : Txn} : scan .stopped T = some q ↔ T = [] ∧ q = .stopped := by
  cases T <;> simp [scan, phaseStep, eq_comm]

/-- A STOP, and only a STOP, leads to `STOPPED`. -/
theorem eq_stop_iff_of_phaseStep {p q : Phase} {e : Element} (h : phaseStep p e = some q) : e = .stop ↔ q = .stopped := by
  cases e with
  | start => simp [(phaseStep_start.mp h).2]
  | wr b chk => rcases phaseStep_wr.mp h with ⟨-, rfl⟩ | ⟨-, rfl⟩ <;> cases b.getLsbD 0 <;> simp
  | rd pol => cases pol <;> simp [(phaseStep_rd.mp h).2]
  | stop => simp [(phaseStep_stop.mp h).2]

/-- R115 (a): the STOP is last and nowhere else. -/
theorem stop_last_of_scan {p : Phase} {T : Txn} (hp : p ≠ .stopped) (h : scan p T = some .stopped) :
    T.getLast? = some .stop ∧ Element.stop ∉ T.dropLast := by
  induction T generalizing p with
  | nil => simp_all [scan]
  | cons e T ih =>
    obtain ⟨q, hq, hT⟩ := scan_cons_eq_some.mp h
    by_cases hstop : q = .stopped
    · subst hstop
      obtain ⟨rfl, -⟩ := scan_stopped_eq_some.mp hT
      simp [(eq_stop_iff_of_phaseStep hq).mpr rfl]
    · obtain ⟨hlast, hrest⟩ := ih hstop hT
      have he : e ≠ .stop := fun he => hstop ((eq_stop_iff_of_phaseStep hq).mp he)
      cases T with
      | nil => simp at hlast
      | cons d T => simp [hlast, hrest, he.symm]

/-- What R115 (b)–(d) ask of the elements up to the next START or STOP, from each phase. -/
def bodyFrom : Phase → Txn → Bool
  | .afterStart, T => phaseBody T
  | .wphase, T => T.all isWr
  | .rphaseAddr, T => readBurst T
  | .rphaseMore, T => readBurst T
  | _, T => T.isEmpty

/-- R115 (b)–(d), from any phase: the elements before the next START or STOP complete the phase, and every later phase is
whole. -/
theorem phaseBodies_of_scan {p : Phase} {T : Txn} (h : scan p T = some .stopped) :
    bodyFrom p (splitPhases T).1 = true ∧ (splitPhases T).2.all phaseBody = true := by
  induction T generalizing p with
  | nil => simp_all [scan, splitPhases, bodyFrom]
  | cons e T ih =>
    obtain ⟨q, hq, hT⟩ := scan_cons_eq_some.mp h
    obtain ⟨hbody, hlater⟩ := ih hT
    cases e with
    | start =>
      obtain ⟨hp, rfl⟩ := phaseStep_start.mp hq
      refine ⟨by rcases hp with rfl | rfl | rfl <;> rfl, ?_⟩
      rw [splitPhases, List.all_cons, hlater, Bool.and_true]
      exact hbody
    | stop =>
      obtain ⟨hp, rfl⟩ := phaseStep_stop.mp hq
      exact ⟨by rcases hp with rfl | rfl <;> rfl, hlater⟩
    | wr b chk =>
      obtain ⟨rfl, rfl⟩ | ⟨rfl, rfl⟩ := phaseStep_wr.mp hq
      · refine ⟨?_, hlater⟩
        change (if b.getLsbD 0 = true then readBurst _ else List.all _ isWr) = true
        by_cases hb : b.getLsbD 0 = true
        · rw [if_pos hb] at hbody ⊢; exact hbody
        · rw [if_neg hb] at hbody ⊢; exact hbody
      · exact ⟨hbody, hlater⟩
    | rd pol =>
      obtain ⟨hp, rfl⟩ := phaseStep_rd.mp hq
      refine ⟨?_, hlater⟩
      cases pol with
      | ack => rcases hp with rfl | rfl <;> exact hbody
      | nack =>
        have hnil : (splitPhases T).1 = [] := by simpa [bodyFrom] using hbody
        rcases hp with rfl | rfl <;> simp [splitPhases, hnil, bodyFrom, readBurst]

/-- R115 (a)–(d) of a transaction the builder has brought from `EMPTY` to `STOPPED`. -/
theorem txnShape_of_scan {T : Txn} (h : scan .empty T = some .stopped) : txnShape T = true := by
  obtain ⟨hlast, hrest⟩ := stop_last_of_scan (by simp) h
  have hfirst : T.head? = some .start := by
    cases T with
    | nil => simp [scan] at h
    | cons e T =>
      obtain ⟨q, hq, -⟩ := scan_cons_eq_some.mp h
      cases e <;> simp_all [phaseStep]
  simp [txnShape, startStop, hfirst, hlast, hrest, (phaseBodies_of_scan h).2]

end Sys2Proof.Machine
end

section
/-! Proofs of the family 10_state, third part: every step keeps the block's invariant. -/

namespace Sys2Proof.Machine

/-! ### Well-formedness by the scan (R115, R184–R186) -/

theorem phaseOk_of_closed {s : State} (h : s.bph = .closed) : PhaseOk s ↔ s.bn = 0 := by
  rw [PhaseOk, if_pos h]

theorem phaseOk_of_open {s : State} (h : s.bph ≠ .closed) : PhaseOk s ↔ scan .empty (openTxn s) = some s.bph := by
  rw [PhaseOk, if_neg h]

/-- A stopped transaction of a block that meets the invariant is well-formed (R115). -/
theorem BlockInv.txnWf_openTxn {s : State} (h : BlockInv s) (hstopped : s.bph = .stopped) :
    txnWf s.cfg (openTxn s) = true := by
  have hopen : s.bph ≠ .closed := by simp [hstopped]
  have hscan : scan .empty (openTxn s) = some .stopped := hstopped ▸ (phaseOk_of_open hopen).mp h.phase
  have hlength : (openTxn s).length ≤ s.cfg.txnCap := (List.length_take_le _ _).trans h.bnLe
  have hreads : countReads (openTxn s) ≤ s.cfg.rdCap := h.bnrCount ▸ h.bnrLe
  simp [txnWf, txnShape_of_scan hscan, hlength, hreads]

theorem scan_addressByte (c : Config) (dir : Dir) (chk : Bool) (T : Txn) :
    scan .afterStart (.wr (addressByte c dir) chk :: T) = scan (phaseOfDir dir) T := by
  have hstep := phaseStep_of_transTable (p := .afterStart) (c := .addr dir chk) c rfl
  simp only [elementOf] at hstep
  rw [scan, hstep, Option.bind_some]

theorem IsTemplate.scan_eq {c : Config} {T : Txn} (h : IsTemplate c T) : scan .empty T = some .stopped := by
  cases h with
  | id => exact (scan_addressByte c .write true _).trans (scan_addressByte c .read true _)
  | cfg r v => exact scan_addressByte c .write true _
  | rd2 r => exact (scan_addressByte c .write true _).trans (scan_addressByte c .read true _)

theorem IsTemplate.length_le {c : Config} {T : Txn} (h : IsTemplate c T) : T.length ≤ 8 := by
  cases h <;> simp [txnId, txnCfg, txnRd2]

theorem IsTemplate.countReads_le {c : Config} {T : Txn} (h : IsTemplate c T) : countReads T ≤ 2 := by
  cases h <;> simp [txnId, txnCfg, txnRd2, countReads]

/-! ### Every act keeps the invariant -/

theorem BlockInv.discard {s : State} (h : BlockInv s) : BlockInv (discardTxn s) :=
  { h with
    bnLe := Nat.zero_le _
    bnrLe := Nat.zero_le _
    bnrCount := rfl
    phase := (phaseOk_of_closed rfl).mpr rfl }

theorem BlockInv.openEmpty {s : State} (h : BlockInv s) : BlockInv (setPhase .empty (discardTxn s)) :=
  { h.discard with phase := (phaseOk_of_open (by simp)).mpr rfl }

theorem BlockInv.append {s : State} (h : BlockInv s) {c : BuilderCmd} {p : Phase} (hp : transTable s.bph c = .next p)
    (hroom : overCapacity (elementOf s.cfg c) s = false) :
    BlockInv (setPhase p (appendElement (elementOf s.cfg c) s)) := by
  obtain ⟨hbn, hbnr⟩ := (overCapacity_eq_false _ _).mp hroom
  have hopen : s.bph ≠ .closed := fun hc => transTable_closed_ne_next (hc ▸ hp)
  have hstep := phaseStep_of_transTable s.cfg hp
  have htxn := openTxn_appendElement (elementOf s.cfg c) s (h.bufLength ▸ hbn)
  have hcount := h.bnrCount
  exact
    { h with
      bufLength := by simp [h.bufLength]
      bnLe := hbn
      bnrLe := by
        rw [setPhase_bnr, appendElement_bnr]
        split
        · next hread => exact hbnr hread
        · exact h.bnrLe
      bnrCount := by
        simp only [setPhase_bnr, appendElement_bnr, openTxn_setPhase, htxn, countReads_append, countReads_singleton,
          ← hcount]
        split <;> rfl
      phase := by
        have hopen' : p ≠ .closed := fun hc => phaseStep_ne_closed (hc ▸ hstep)
        rw [phaseOk_of_open (by simpa using hopen'), openTxn_setPhase, htxn, scan_append_singleton,
          (phaseOk_of_open hopen).mp h.phase]
        exact hstep }

theorem BlockInv.load {s : State} (h : BlockInv s) {T : Txn} (hT : IsTemplate s.cfg T) : BlockInv (loadTxn T s) := by
  obtain ⟨-, hcaps, -⟩ := (config_wf_iff _).mp h.cfgWf
  obtain ⟨htxnCap, -, hrdCap, -⟩ := (capsWf_iff _).mp hcaps
  have hlength : T.length ≤ s.cfg.txnCap := hT.length_le.trans htxnCap
  exact
    { h with
      bufLength := by simp [h.bufLength, hlength]
      bnLe := hlength
      bnrLe := hT.countReads_le.trans hrdCap
      bnrCount := by simp
      phase := (phaseOk_of_open (by simp)).mpr (by simpa using hT.scan_eq) }

theorem BlockInv.run {s : State} (h : BlockInv s) (hstopped : s.bph = .stopped) {out : Answer}
    (hadm : admissible (openTxn s) out = true) : BlockInv (runWith out s) :=
  { h.discard with
    rdataLength := slotsAfter_length _ _ _ out h.rdataLength
    rdCountLe := by
      cases out with
      | ok d => exact h.bnrLe
      | nack i => exact Nat.zero_le _
      | timeout => exact Nat.zero_le _
    notValid := by cases out <;> simp [runWith, validAfter, countAfter]
    logWf := by
      simp only [runWith, receive_busLog, discardTxn_busLog, logCall_busLog, List.mem_append, List.mem_singleton]
      rintro e (he | rfl)
      · exact h.logWf e he
      · exact ⟨h.txnWf_openTxn hstopped, hadm⟩ }

theorem Act.keeps_inv {s t : State} (hact : Act s t) (h : BlockInv s) : BlockInv t := by
  cases hact with
  | discard => exact h.discard
  | openEmpty => exact h.openEmpty
  | append hp hroom => exact h.append hp hroom
  | run hstopped hadm => exact h.run hstopped hadm
  | load hT => exact h.load hT
  | setWf | storeAccel | dropAccel | storeTemp | dropTemp => exact { h with }

/-! ### Every report and every other input keeps the invariant -/

theorem stickyAfter_getLsbD (c : StatusCode) (v : BitVec 8) {b : Nat} (hb : b < 8) :
    (stickyAfter c v).getLsbD b = (v.getLsbD b || (decide (c ≠ .ok) && decide (codeNum c = b))) := by
  rw [stickyAfter, BitVec.getLsbD_or]
  congr 1
  revert b
  cases c <;> decide

theorem BlockInv.report {s : State} (h : BlockInv s) {c : StatusCode} {r : MReason}
    (hr : r = .none ↔ c ≠ .malformed) : BlockInv (setStatus c r s) :=
  { h with
    reason := hr
    stickyZero := by
      rw [setStatus_sticky, stickyAfter_getLsbD _ _ (by decide), h.stickyZero]
      cases c <;> rfl
    stickyCode := by
      intro hc
      rw [setStatus_code] at hc
      rw [setStatus_sticky, setStatus_code, stickyAfter_getLsbD _ _ (by cases c <;> decide)]
      simp [hc] }

theorem Finishes.keeps_inv {cs : List StatusCode} {s t : State} (hfin : Finishes cs s t) (h : BlockInv s) :
    BlockInv t := by
  obtain ⟨c, r, u, -, hr, hacts, rfl⟩ := hfin
  exact (acts_keep (fun _ _ => Act.keeps_inv) hacts h).report hr

/-- The reset input asks of the state before it only a configuration the block can have. -/
theorem blockInv_blockReset {s : State} (h : s.cfg.wf = true) : BlockInv (blockReset s) where
  cfgWf := h
  bufLength := List.length_replicate
  rdataLength := List.length_replicate
  bnLe := Nat.zero_le _
  bnrLe := Nat.zero_le _
  bnrCount := rfl
  phase := (phaseOk_of_closed rfl).mpr rfl
  rdCountLe := Nat.zero_le _
  notValid := fun _ => rfl
  reason := by simp [blockReset, State.reset]
  stickyZero := by simp [blockReset, State.reset]
  stickyCode := fun h => absurd rfl h
  logWf := by simp [blockReset, State.reset]

/-- Settles O42: every act of a command keeps the invariant with the old status (`Act.keeps_inv`), and the report keeps it
too; the host's other inputs leave it alone or, at reset, establish it. -/
theorem stepKeepsInv : Obligations.StepKeepsInv := by
  intro s t hinv hstep
  have hpop : BlockInv (popInput s) := { hinv with }
  obtain ⟨-, h⟩ | ⟨w, i, rest, -, -, h⟩ | ⟨w, why, rest, -, -, h⟩ | ⟨n, rest, -, h⟩ | ⟨rest, -, h⟩ := step_cases s <;>
    rw [h] at hstep
  · cases hstep
    exact hinv
  · exact (finishes_of_exec hstep).keeps_inv hpop
  · cases hstep
    exact hpop.report (by simp)
  · cases hstep
    exact { hpop with }
  · cases hstep
    exact blockInv_blockReset hpop.cfgWf

/-- Settles O43: the reset state is what the reset input makes of it. -/
theorem resetMeetsInv : Obligations.ResetMeetsInv :=
  blockInv_blockReset (s := State.reset) (by decide)

/-- Settles O45: at reset the workflow is `Uninitialized` and no result is valid, so the four histories claim nothing. -/
theorem resetMeetsHistory : Obligations.ResetMeetsHistory where
  inv := resetMeetsInv
  identity h := absurd rfl h
  config := by simp [ConfigSeen, State.reset]
  accel h := Bool.noConfusion h
  temp h := Bool.noConfusion h

end Sys2Proof.Machine
end

section
/-! Proofs of the family 10_state, fourth part: what a command leaves constant and what it reports (R20, R23, R25). -/

namespace Sys2Proof.Machine

/-! ### A command keeps the ROM and adds its code to STICKY -/

/-- A report brings its code, records it in STICKY and leaves the ROM; the acts before it touch neither register nor ROM. -/
theorem Finishes.frame {cs : List StatusCode} {s t : State} (h : Finishes cs s t) :
    t.code ∈ cs ∧ t.sticky = stickyAfter t.code s.sticky ∧ t.cfg = s.cfg := by
  obtain ⟨c, r, u, hc, -, hacts, rfl⟩ := h
  have hsticky : u.sticky = s.sticky :=
    acts_keep (P := fun v => v.sticky = s.sticky) (fun _ _ h => h.sticky_eq.trans) hacts rfl
  have hcfg : u.cfg = s.cfg :=
    acts_keep (P := fun v => v.cfg = s.cfg) (fun _ _ h => h.cfg_eq.trans) hacts rfl
  simp [hc, hsticky, hcfg]

theorem exec_frame {i : Instr} {s t : State} (h : exec i s = .next t) :
    t.code ∈ codesIn i s ∧ t.sticky = stickyAfter t.code s.sticky ∧ t.cfg = s.cfg :=
  (finishes_of_exec h).frame

/-- Settles O14: commands by `exec_frame`; every other input writes nothing of the ROM. -/
theorem romIsConstant : Obligations.RomIsConstant := by
  intro s t hstep
  obtain ⟨-, h⟩ | ⟨w, i, rest, -, -, h⟩ | ⟨w, why, rest, -, -, h⟩ | ⟨n, rest, -, h⟩ | ⟨rest, -, h⟩ := step_cases s <;>
    rw [h] at hstep
  case inr.inl =>
    obtain ⟨-, -, hcfg⟩ := exec_frame hstep
    exact hcfg
  all_goals
    cases hstep
    rfl

/-! ### The codes of each command (R23, R231) -/

/-- The columns of R231, for a command that is not refused as `Busy`. -/
theorem codesOf_columns (i : Instr) {c : StatusCode} (hc : c ∈ codesOf i) :
    c ≠ .illegalCommand ∧ c ≠ .busy ∧
    (c = .deviceNotPresent → i = .verifyIdentity) ∧
    (c = .busTimeout ∨ c = .busNack → i = .execute ∨ isSequencer i = true) ∧
    (c = .malformed → i = .execute ∨ (isBuilder i = true ∧ i ≠ .beginTxn)) ∧
    (c = .workflowOrder → i = .configure ∨ i = .readAccelX ∨ i = .readTemp) := by
  cases i <;> simp only [codesOf, List.mem_cons, List.not_mem_nil, or_false] at hc
  case beginTxn => simp [hc]
  case start | addr | writeByte | readByte | stop => rcases hc with rfl | rfl <;> simp [isBuilder]
  case execute => rcases hc with rfl | rfl | rfl | rfl <;> simp
  case verifyIdentity | configure | readAccelX | readTemp =>
    rcases hc with rfl | rfl | rfl | rfl <;> simp [isSequencer]

/-- Settles O49: the codes of `exec_frame`, read column by column; `Busy` is the one code of a sequencer command with a
transaction open, and no other command has it. -/
theorem codesOfEachCommand : Obligations.CodesOfEachCommand := by
  intro i s t hexec
  obtain ⟨hcode, -, -⟩ := exec_frame hexec
  unfold codesIn at hcode
  split at hcode
  · next hbusy =>
    rw [List.mem_singleton] at hcode
    simp [hcode, hbusy]
  · next hfree =>
    obtain ⟨hillegal, hbusy, hdevice, hbus, hmalformed, horder⟩ := codesOf_columns i hcode
    exact ⟨hillegal, hdevice, hbus, hmalformed, horder, iff_of_false hbusy hfree⟩

/-! ### STICKY (R25) -/

theorem getLsbD_stickyAfter_of_getLsbD {v : BitVec 8} {b : Nat} (c : StatusCode) (h : v.getLsbD b = true) :
    (stickyAfter c v).getLsbD b = true := by
  rw [stickyAfter, BitVec.getLsbD_or, h, Bool.true_or]

theorem step_illegal {s : State} {w : CmdWord} {rest : List HostInput} {why : IllegalWord}
    (hhost : s.host = .command w :: rest) (hd : decode w = .illegal why) :
    step s = .next (illegalCommand (popInput s)) := by
  simp [step, nextInput, hhost, hd]

theorem step_waits {s : State} (hhost : s.host = []) : step s = .next s := by
  simp [step, nextInput, hhost]

theorem step_read {s : State} {n : Byte} {rest : List HostInput} (hhost : s.host = .read n :: rest) :
    step s = .next (hostRead n (popInput s)) := by
  simp [step, nextInput, hhost]

theorem step_reset {s : State} {rest : List HostInput} (hhost : s.host = .reset :: rest) :
    step s = .next (blockReset (popInput s)) := by
  simp [step, nextInput, hhost]

/-- A step on a command word, legal or not, adds the code it reports to STICKY. -/
theorem step_sticky_of_command {s t : State} {w : CmdWord} {rest : List HostInput} (hhost : s.host = .command w :: rest)
    (hstep : step s = .next t) : t.sticky = stickyAfter t.code s.sticky := by
  cases hd : decode w with
  | command i =>
    rw [step_command hhost hd] at hstep
    obtain ⟨-, hsticky, -⟩ := exec_frame hstep
    exact hsticky
  | illegal why =>
    rw [step_illegal hhost hd] at hstep
    cases hstep
    rfl

/-- Register 0x01 reads the recorded bits 1 to 7. -/
theorem stickyWord_getLsbD (s : State) (b : Nat) :
    (stickyWord s).getLsbD b = (decide (1 ≤ b) && s.sticky.getLsbD b) := by
  by_cases hb : b < 8
  · have hmask : ∀ k < 8, (0xFE : BitVec 8).getLsbD k = decide (1 ≤ k) := by decide
    simp only [stickyWord, BitVec.getLsbD_setWidth, BitVec.getLsbD_and]
    rw [hmask b hb, decide_eq_true (show b < 64 by omega), Bool.true_and, Bool.and_comm]
  · simp [stickyWord, BitVec.getLsbD_of_ge _ b (Nat.le_of_not_lt hb)]

/-- Settles O47: a report adds exactly its own code's bit (`stickyAfter_getLsbD`), and of the other inputs only reset writes
the register. -/
theorem stickyRecordsEveryFailure : Obligations.StickyRecordsEveryFailure := by
  refine ⟨fun i s t b hexec hb => ?_, fun s t w rest b hhost hstep hb => ?_, fun s t w rest hhost hnone hstep => ?_, rfl,
    fun s t b hstep hreset hset => ?_, fun s t hstep hreset => ?_, stickyWord_getLsbD⟩
  · obtain ⟨-, hsticky, -⟩ := exec_frame hexec
    rw [hsticky, stickyAfter_getLsbD _ _ hb]
  · rw [step_sticky_of_command hhost hstep, stickyAfter_getLsbD _ _ hb]
  · cases hd : decode w with
    | command i => simp [hd, commandOf] at hnone
    | illegal why =>
      rw [step_illegal hhost hd] at hstep
      cases hstep
      exact ⟨rfl, rfl⟩
  · cases hhost : s.host with
    | nil =>
      rw [step_waits hhost] at hstep
      cases hstep
      exact hset
    | cons a rest =>
      cases a with
      | command w =>
        rw [step_sticky_of_command hhost hstep]
        exact getLsbD_stickyAfter_of_getLsbD _ hset
      | read n =>
        rw [step_read hhost] at hstep
        cases hstep
        exact hset
      | reset => simp [hhost] at hreset
  · obtain ⟨rest, hhost⟩ := List.head?_eq_some_iff.mp hreset
    rw [step_reset hhost] at hstep
    cases hstep
    rfl

end Sys2Proof.Machine
end

section
/-! Proofs of the family 10_state, fifth part: what the read port returns (R34, R35, R40) and the reset values (R41). -/

namespace Sys2Proof.Machine

/-! ### The packed words (R22–R31) -/

theorem codeNum_lt (c : StatusCode) : codeNum c < 16 := by
  cases c <;> decide

theorem reasonNum_lt (r : MReason) : reasonNum r < 16 := by
  cases r <;> decide

theorem phaseNum_lt (p : Phase) : phaseNum p < 8 := by
  cases p <;> decide

theorem workflowNum_lt (w : Workflow) : workflowNum w < 4 := by
  cases w <;> decide

theorem statusWord_toNat (s : State) : (statusWord s).toNat = codeNum s.code + 16 * reasonNum s.mreason := by
  have hcode := codeNum_lt s.code
  have hreason := reasonNum_lt s.mreason
  simp only [statusWord, field, BitVec.toNat_ofNat]
  omega

theorem stickyWord_toNat (s : State) : (stickyWord s).toNat = s.sticky.toNat - s.sticky.toNat % 2 := by
  have hmask : ∀ v : BitVec 8, ((v &&& 0xFE).setWidth 64).toNat = v.toNat - v.toNat % 2 := by decide
  exact hmask s.sticky

theorem wfWord_toNat (s : State) : (wfWord s).toNat = workflowNum s.wf := by
  have hwf := workflowNum_lt s.wf
  simp only [wfWord, field, BitVec.toNat_ofNat]
  omega

theorem bstateWord_toNat {s : State} (hbn : s.bn < 256) (hbnr : s.bnr < 256) :
    (bstateWord s).toNat = phaseNum s.bph + 256 * s.bn + 65536 * s.bnr := by
  have hphase := phaseNum_lt s.bph
  simp only [bstateWord, field, BitVec.toNat_ofNat]
  omega

theorem validWord_toNat (s : State) :
    (validWord s).toNat = s.rdataV.toNat + 2 * s.accelV.toNat + 4 * s.tempV.toNat := by
  have hrdata := s.rdataV.toNat_lt
  have haccel := s.accelV.toNat_lt
  have htemp := s.tempV.toNat_lt
  simp only [validWord, field, BitVec.toNat_ofNat]
  omega

theorem rdCountWord_toNat {s : State} (h : s.rdCount < 256) : (rdCountWord s).toNat = s.rdCount := by
  simp only [rdCountWord, field, BitVec.toNat_ofNat]
  omega

/-! ### Register numbers from 0x09 on (R35) -/

theorem readPort_rom {s : State} {n : Byte} (hlo : 0x08 < n.toNat) (hhi : n.toNat < 0x40) :
    readPort s n = romWord s.cfg n.toNat := by
  unfold readPort
  split
  case h_10 => exact if_pos hhi
  all_goals omega

theorem readPort_slot {s : State} {n : Byte} (h : 0x40 ≤ n.toNat) : readPort s n = slotWord s n.toNat := by
  unfold readPort
  split
  case h_10 => exact if_neg (Nat.not_lt.mpr h)
  all_goals omega

theorem romWord_unassigned (c : Config) {n : Nat} (h : n < 0x10 ∨ 0x1E < n) : romWord c n = 0 := by
  unfold romWord
  split
  case h_16 => rfl
  all_goals omega

/-- Settles O11: the numbers by definition, each packed word by its own lemma, the slots and the unassigned numbers by the
range of the register number. -/
theorem readPortMap : Obligations.ReadPortMap := by
  refine ⟨⟨rfl, rfl, rfl, rfl, rfl, rfl, rfl, rfl⟩, ⟨rfl, rfl, rfl, rfl, rfl, rfl, rfl, rfl, rfl, rfl, rfl, rfl⟩,
    ⟨rfl, rfl, rfl, rfl, rfl, rfl, rfl, rfl⟩, ⟨rfl, rfl, rfl, rfl⟩, fun s => ?_⟩
  refine ⟨statusWord_toNat s, stickyWord_toNat s, wfWord_toNat s, bstateWord_toNat, validWord_toNat s, rdCountWord_toNat,
    BitVec.toNat_setWidth_of_le (by decide), BitVec.toNat_setWidth_of_le (by decide), rfl, fun n b hlo hhi hb => ?_,
    fun n hn => ?_⟩
  · rw [readPort_slot hlo, slotWord, if_pos ⟨hlo, hhi⟩, List.getD_eq_getElem?_getD, hb]
    exact BitVec.toNat_setWidth_of_le (by decide)
  · by_cases hslot : 0x40 ≤ n.toNat
    · rw [readPort_slot hslot, slotWord, if_neg (by omega)]
    · rw [readPort_rom (by omega) (by omega), romWord_unassigned _ (by omega)]

/-- Settles O12: registers 0x10 to 0x1E read `romWord`, each constant zero-extended. -/
theorem romReadBack : Obligations.RomReadBack := by
  refine ⟨fun s => ?_, by decide⟩
  simp [readPort, romWord, BitVec.toNat_setWidth_of_le, -BitVec.toNat_setWidth]

/-- Settles O10: the port reads neither the pending inputs nor the host's own record. -/
theorem hostReadHasNoSideEffect : Obligations.HostReadHasNoSideEffect := by
  intro s n rest hhost
  refine ⟨_, step_read hhost, ?_, fun m => rfl⟩
  rw [popInput_of_host_eq_cons hhost]
  rfl

/-- Settles O6: the fields of `State.reset`; the entries of `BUF` are START, whose 11-bit form is 0. -/
theorem resetValues : Obligations.ResetValues := by
  refine ⟨rfl, rfl, rfl, rfl, rfl, rfl, fun e he => ?_, rfl, fun b hb => List.eq_of_mem_replicate hb, rfl, rfl, rfl, rfl, rfl,
    rfl, rfl, rfl⟩
  rw [List.eq_of_mem_replicate he]
  rfl

end Sys2Proof.Machine
end

section
/-! Proofs of the family 10_state, sixth part: no command tells apart two states that differ in the past of `BUSLOG` or in
entries of `BUF` beyond `BN` (R27, R37). One relation carries both statements through all commands. -/

namespace Sys2Proof.Machine

/-! ### Alike states -/

/-- `s'` is `s` but for what no command reads: `BUSLOG` begins with `log'` where that of `s` begins with `log`, and `BUF` may
hold other entries beyond `BN`, except at the places of `K`. -/
structure Alike (K : Nat → Prop) (log log' : List BusEntry) (s s' : State) : Prop where
  rest : s' = { s with buf := s'.buf, busLog := s'.busLog }
  length : s'.buf.length = s.buf.length
  entries : ∀ k, k < s.bn ∨ K k → s'.buf[k]? = s.buf[k]?
  suffix : ∃ l, s.busLog = log ++ l ∧ s'.busLog = log' ++ l

section
variable {K : Nat → Prop} {log log' : List BusEntry} {s s' : State}

namespace Alike

theorem cfg_eq (h : Alike K log log' s s') : s'.cfg = s.cfg := (congrArg State.cfg h.rest :)
theorem bph_eq (h : Alike K log log' s s') : s'.bph = s.bph := (congrArg State.bph h.rest :)
theorem bn_eq (h : Alike K log log' s s') : s'.bn = s.bn := (congrArg State.bn h.rest :)
theorem bnr_eq (h : Alike K log log' s s') : s'.bnr = s.bnr := (congrArg State.bnr h.rest :)
theorem wf_eq (h : Alike K log log' s s') : s'.wf = s.wf := (congrArg State.wf h.rest :)
theorem rdata_eq (h : Alike K log log' s s') : s'.rdata = s.rdata := (congrArg State.rdata h.rest :)
theorem answers_eq (h : Alike K log log' s s') : s'.answers = s.answers := (congrArg State.answers h.rest :)
theorem draws_eq (h : Alike K log log' s s') : s'.draws = s.draws := (congrArg State.draws h.rest :)

theorem openTxn_eq (h : Alike K log log' s s') : openTxn s' = openTxn s := by
  apply List.ext_getElem?
  intro k
  simp only [openTxn, h.bn_eq, List.getElem?_take]
  split
  · next hk => exact h.entries k (.inl hk)
  · rfl

theorem overCapacity_eq (h : Alike K log log' s s') (e : Element) : overCapacity e s' = overCapacity e s := by
  simp only [overCapacity, h.cfg_eq, h.bn_eq, h.bnr_eq]

theorem transportAnswer_eq (h : Alike K log log' s s') (T : Txn) : transportAnswer s' T = transportAnswer s T := by
  simp only [transportAnswer, h.answers_eq, h.draws_eq, h.cfg_eq]

/-! ### Every update keeps states alike -/

/-- An update that neither reads nor writes `BUF` and `BUSLOG`, and adds nothing to the open transaction. -/
theorem update (f : State → State) (hf : ∀ u b l, f { u with buf := b, busLog := l } = { f u with buf := b, busLog := l })
    (hbn : ∀ u, (f u).bn ≤ u.bn) (h : Alike K log log' s s') : Alike K log log' (f s) (f s') := by
  have hbuf : ∀ u, (f u).buf = u.buf := fun u => (congrArg State.buf (hf u u.buf u.busLog) :)
  have hlog : ∀ u, (f u).busLog = u.busLog := fun u => (congrArg State.busLog (hf u u.buf u.busLog) :)
  refine ⟨?_, ?_, fun k hk => ?_, ?_⟩
  · rw [hbuf, hlog, ← hf, ← h.rest]
  · rw [hbuf, hbuf, h.length]
  · rw [hbuf, hbuf]
    exact h.entries k (hk.imp_left fun hlt => hlt.trans_le (hbn s))
  · rw [hlog, hlog]
    exact h.suffix

protected theorem setStatus (h : Alike K log log' s s') (c : StatusCode) (r : MReason) :
    Alike K log log' (setStatus c r s) (setStatus c r s') :=
  h.update _ (fun _ _ _ => rfl) fun _ => Nat.le_refl _

protected theorem discardTxn (h : Alike K log log' s s') : Alike K log log' (discardTxn s) (discardTxn s') :=
  h.update _ (fun _ _ _ => rfl) fun _ => Nat.zero_le _

protected theorem setPhase (h : Alike K log log' s s') (p : Phase) : Alike K log log' (setPhase p s) (setPhase p s') :=
  h.update _ (fun _ _ _ => rfl) fun _ => Nat.le_refl _

protected theorem setWf (h : Alike K log log' s s') (w : Workflow) : Alike K log log' (setWf w s) (setWf w s') :=
  h.update _ (fun _ _ _ => rfl) fun _ => Nat.le_refl _

protected theorem receive (h : Alike K log log' s s') (k n : Nat) (out : Answer) :
    Alike K log log' (receive k n out s) (receive k n out s') :=
  h.update _ (fun _ _ _ => by cases out <;> rfl) fun _ => Nat.le_refl _

protected theorem storeAccel (h : Alike K log log' s s') : Alike K log log' (storeAccel s) (storeAccel s') :=
  h.update _ (fun _ _ _ => rfl) fun _ => Nat.le_refl _

protected theorem dropAccel (h : Alike K log log' s s') : Alike K log log' (dropAccel s) (dropAccel s') :=
  h.update _ (fun _ _ _ => rfl) fun _ => Nat.le_refl _

protected theorem storeTemp (h : Alike K log log' s s') : Alike K log log' (storeTemp s) (storeTemp s') :=
  h.update _ (fun _ _ _ => rfl) fun _ => Nat.le_refl _

protected theorem dropTemp (h : Alike K log log' s s') : Alike K log log' (dropTemp s) (dropTemp s') :=
  h.update _ (fun _ _ _ => rfl) fun _ => Nat.le_refl _

protected theorem logCall (h : Alike K log log' s s') (T : Txn) (out : Answer) :
    Alike K log log' (logCall T out s) (logCall T out s') where
  rest := by rw [h.rest]; rfl
  length := h.length
  entries := h.entries
  suffix := by
    obtain ⟨l, hs, hs'⟩ := h.suffix
    exact ⟨l ++ [(T, out)], by simp [hs], by simp [hs']⟩

protected theorem appendElement (h : Alike K log log' s s') (e : Element) :
    Alike K log log' (appendElement e s) (appendElement e s') where
  rest := by rw [h.rest]; rfl
  length := by simp [h.length]
  entries k hk := by
    simp only [appendElement_buf, List.getElem?_set, h.bn_eq, h.length]
    split
    · rfl
    · next hne =>
      rw [appendElement_bn] at hk
      exact h.entries k (hk.imp_left fun hlt => by omega)
  suffix := h.suffix

protected theorem loadTxn (h : Alike K log log' s s') (T : Txn) : Alike K log log' (loadTxn T s) (loadTxn T s') where
  rest := by rw [h.rest]; rfl
  length := by simp [h.length]
  entries k hk := by
    simp only [loadTxn_buf, loadTxn_bn, List.getElem?_append, List.getElem?_drop] at hk ⊢
    split
    · rfl
    · next hk' =>
      rw [Nat.add_sub_cancel' (Nat.le_of_not_lt hk')]
      exact h.entries k (.inr (hk.resolve_left hk'))
  suffix := h.suffix

/-! ### Every operation keeps states alike -/

protected theorem finish (h : Alike K log log' s s') (c : StatusCode) : Alike K log log' (finish c s) (finish c s') :=
  h.setStatus c .none

protected theorem malformed (h : Alike K log log' s s') (r : MReason) : Alike K log log' (malformed r s) (malformed r s') :=
  h.discardTxn.setStatus .malformed r

protected theorem runTxn (h : Alike K log log' s s') :
    Alike K log log' (runTxn s).1 (runTxn s').1 ∧ (runTxn s').2 = (runTxn s).2 := by
  simp only [runTxn, runWith, h.openTxn_eq, h.transportAnswer_eq, h.draws_eq, h.bnr_eq, and_true]
  exact ((h.logCall _ _).discardTxn).receive _ _ _

protected theorem seqTxn (h : Alike K log log' s s') (T : Txn) :
    Alike K log log' (seqTxn T s).1 (seqTxn T s').1 ∧ (seqTxn T s').2 = (seqTxn T s).2 :=
  (h.loadTxn T).runTxn

protected theorem builderStep (h : Alike K log log' s s') (c : BuilderCmd) :
    Alike K log log' (builderStep c s) (builderStep c s') := by
  simp only [builderStep, h.bph_eq, h.cfg_eq, h.overCapacity_eq]
  split
  · exact h.malformed _
  · split
    · exact h.malformed _
    · exact ((h.appendElement _).setPhase _).finish _

protected theorem executeTxn (h : Alike K log log' s s') : Alike K log log' (executeTxn s) (executeTxn s') := by
  obtain ⟨hrun, hcode⟩ := h.runTxn
  simp only [executeTxn, runAndFinish, h.bph_eq, hcode]
  split
  · exact h.malformed _
  · exact h.malformed _
  · exact hrun.finish _
  · exact h.malformed _

protected theorem unlessBusy (h : Alike K log log' s s') {f : State → State} (hf : Alike K log log' (f s) (f s')) :
    Alike K log log' (unlessBusy f s) (unlessBusy f s') := by
  simp only [unlessBusy, h.bph_eq]
  split
  · exact hf
  · exact h.finish _

protected theorem checkIdentity (h : Alike K log log' s s') : Alike K log log' (checkIdentity s) (checkIdentity s') := by
  unfold checkIdentity slot
  rw [h.rdata_eq, h.cfg_eq, h.wf_eq]
  split
  · split
    · exact (h.setWf _).finish _
    · exact h.finish _
  · exact (h.setWf _).finish _

protected theorem verifyIdentity (h : Alike K log log' s s') : Alike K log log' (verifyIdentity s) (verifyIdentity s') := by
  obtain ⟨hseq, hcode⟩ := h.seqTxn (txnId s.cfg)
  simp only [verifyIdentity, h.cfg_eq, hcode]
  split
  · exact hseq.checkIdentity
  · exact (hseq.setWf _).finish _

protected theorem writeRegs (h : Alike K log log' s s') (l : List (Byte × Byte)) :
    Alike K log log' (writeRegs l s).1 (writeRegs l s').1 ∧ (writeRegs l s').2 = (writeRegs l s).2 := by
  induction l generalizing s s' with
  | nil => exact ⟨h, rfl⟩
  | cons rv l ih =>
    obtain ⟨hseq, hcode⟩ := h.seqTxn (txnCfg s.cfg rv.1 rv.2)
    simp only [writeRegs, h.cfg_eq, hcode]
    split
    · exact ih hseq
    · exact ⟨hseq, hcode⟩

protected theorem configure (h : Alike K log log' s s') : Alike K log log' (configure s) (configure s') := by
  obtain ⟨hwrites, hcode⟩ := h.writeRegs (cfgList s.cfg)
  simp only [configure, h.wf_eq, h.cfg_eq, hcode]
  split
  · exact h.finish _
  · exact (hwrites.setWf _).finish _

protected theorem readSample (h : Alike K log log' s s') (r : Byte) {store drop : State → State}
    (hstore : ∀ {u u'}, Alike K log log' u u' → Alike K log log' (store u) (store u'))
    (hdrop : ∀ {u u'}, Alike K log log' u u' → Alike K log log' (drop u) (drop u')) :
    Alike K log log' (readSample r store drop s) (readSample r store drop s') := by
  obtain ⟨hseq, hcode⟩ := h.seqTxn (txnRd2 s.cfg r)
  simp only [readSample, h.wf_eq, h.cfg_eq, hcode]
  split
  · split
    · exact ((hstore hseq).setWf _).finish _
    · exact (hdrop hseq).finish _
  · exact h.finish _

/-- Every command takes alike states to alike states. -/
protected theorem exec (h : Alike K log log' s s') {i : Instr} {t : State} (ht : exec i s = .next t) :
    ∃ t', exec i s' = .next t' ∧ Alike K log log' t t' := by
  cases i <;> cases ht <;> refine ⟨_, rfl, ?_⟩
  case beginTxn => exact (h.discardTxn.setPhase _).finish _
  case start | addr | writeByte | readByte | stop => exact h.builderStep _
  case execute => exact h.executeTxn
  case verifyIdentity => exact h.unlessBusy h.verifyIdentity
  case configure => exact h.unlessBusy h.configure
  case readAccelX =>
    refine h.unlessBusy ?_
    simp only [readAccelX, h.cfg_eq]
    exact h.readSample _ .storeAccel .dropAccel
  case readTemp =>
    refine h.unlessBusy ?_
    simp only [readTemp, h.cfg_eq]
    exact h.readSample _ .storeTemp .dropTemp

end Alike
end

/-! ### The obligations -/

/-- Settles O51: `Alike` with no further place of `BUF` kept and the same log on both sides. -/
theorem bufBeyondBnIsUnobservable : Obligations.BufBeyondBnIsUnobservable := by
  intro i s t buf hlength htake hexec
  have halike : Alike (fun _ => False) s.busLog s.busLog s { s with buf := buf } :=
    { rest := rfl
      length := hlength
      entries := fun k hk => by
        have hlt : k < s.bn := hk.resolve_right id
        rw [← List.getElem?_take_of_lt hlt, htake, List.getElem?_take_of_lt hlt]
      suffix := ⟨[], by simp⟩ }
  obtain ⟨t', ht', h⟩ := halike.exec hexec
  obtain ⟨l, hl, hl'⟩ := h.suffix
  refine ⟨t'.buf, ?_, ?_⟩
  · rw [ht', h.rest, hl', ← hl]
  · have htxn := h.openTxn_eq
    rwa [openTxn, openTxn, h.bn_eq] at htxn

/-- Settles O52: `Alike` with every place of `BUF` kept and `log` in place of the log before the command. -/
theorem busLogIsNeverRead : Obligations.BusLogIsNeverRead := by
  intro i s t log hexec
  have halike : Alike (fun _ => True) s.busLog log s { s with busLog := log } :=
    { rest := rfl, length := rfl, entries := fun _ _ => rfl, suffix := ⟨[], by simp⟩ }
  obtain ⟨t', ht', h⟩ := halike.exec hexec
  obtain ⟨l, hl, hl'⟩ := h.suffix
  have hbuf : t'.buf = t.buf := List.ext_getElem? fun k => h.entries k (.inr trivial)
  rw [ht', h.rest, hbuf, hl', hl, List.drop_left]

end Sys2Proof.Machine
end

section
/-! Proofs of the family 20_memory, first part: how much bus traffic a command makes (R67, R159, R189). -/

namespace Sys2Proof.Machine

/-! ### The calls between two states -/

/-- From `s` to `t` the log has gained at most `n` calls, each with an answer R153 admits, and none after a failed one. -/
def Traffic (n : Nat) (s t : State) : Prop :=
  ∃ l : List BusEntry, t.busLog = s.busLog ++ l ∧ l.length ≤ n ∧ (∀ e ∈ l, admissible e.1 e.2 = true) ∧
    ∀ e ∈ l.dropLast, answerCode e.2 = .ok

theorem traffic_of_busLog_eq (n : Nat) {s t : State} (h : t.busLog = s.busLog) : Traffic n s t :=
  ⟨[], by simp [h], Nat.zero_le n, by simp, by simp⟩

/-- Traffic that begins with one call: a failed answer ends it, an `Ok` lets the traffic of the rest follow. -/
theorem traffic_of_call {n : Nat} {s u t : State} {T : Txn} {out : Answer} (hcall : u.busLog = s.busLog ++ [(T, out)])
    (hadm : admissible T out = true) (hrest : Traffic n u t)
    (hfail : answerCode out ≠ .ok → t.busLog = u.busLog) : Traffic (n + 1) s t := by
  by_cases hok : answerCode out = .ok
  · obtain ⟨l, hl, hlen, hadms, hoks⟩ := hrest
    refine ⟨(T, out) :: l, by simp [hl, hcall], by simpa using hlen, List.forall_mem_cons.mpr ⟨hadm, hadms⟩, ?_⟩
    cases l with
    | nil => simp
    | cons e l => exact List.forall_mem_cons.mpr ⟨hok, hoks⟩
  · exact ⟨[(T, out)], by rw [hfail hok, hcall], by simp, by simpa using hadm, by simp⟩

/-- A single call and then nothing more. -/
theorem traffic_of_one_call {s t : State} {T : Txn} {out : Answer} (h : t.busLog = s.busLog ++ [(T, out)])
    (hadm : admissible T out = true) : Traffic 1 s t :=
  traffic_of_call h hadm (traffic_of_busLog_eq 0 rfl) fun _ => rfl

theorem Traffic.busLog_congr {n : Nat} {s u t : State} (h : Traffic n s u) (ht : t.busLog = u.busLog) : Traffic n s t := by
  rwa [Traffic, ht]

/-! ### The traffic of each command -/

@[simp] theorem runWith_busLog (out : Answer) (s : State) : (runWith out s).busLog = s.busLog ++ [(openTxn s, out)] := rfl

theorem builderStep_busLog (c : BuilderCmd) (s : State) : (builderStep c s).busLog = s.busLog := by
  obtain ⟨r, -, h⟩ | ⟨p, -, -, h⟩ | ⟨p, -, -, h⟩ := builderStep_cases c s <;> rw [h] <;> rfl

/-- EXECUTE on a closed transaction: one call with it, whose answer R153 admits and whose code is reported (R150, R151). -/
theorem executeTxn_of_stopped {s : State} (h : s.bph = .stopped) :
    ∃ out, admissible (openTxn s) out = true ∧ (executeTxn s).code = answerCode out ∧
      (executeTxn s).busLog = s.busLog ++ [(openTxn s, out)] := by
  obtain ⟨out, hadm, hrun⟩ := runTxn_cases s
  exact ⟨out, hadm, by simp [executeTxn, h, runAndFinish, hrun]⟩

theorem executeTxn_traffic (s : State) : Traffic 1 s (executeTxn s) := by
  by_cases h : s.bph = .stopped
  · obtain ⟨out, hadm, -, hlog⟩ := executeTxn_of_stopped h
    exact traffic_of_one_call hlog hadm
  · apply traffic_of_busLog_eq
    unfold executeTxn
    split
    case h_3 hstopped => exact absurd hstopped h
    all_goals rfl

theorem unlessBusy_traffic {n : Nat} {f : State → State} {s : State} (h : Traffic n s (f s)) :
    Traffic n s (unlessBusy f s) := by
  obtain ⟨-, hf⟩ | ⟨-, hbusy⟩ := unlessBusy_cases f s
  · rwa [hf]
  · rw [hbusy]
    exact traffic_of_busLog_eq n rfl

theorem seqTxn_traffic (T : Txn) (s : State) : Traffic 1 s (seqTxn T s).1 := by
  obtain ⟨out, hadm, hseq⟩ := seqTxn_cases T s
  exact traffic_of_one_call (by simp [hseq]) hadm

theorem checkIdentity_busLog (s : State) : (checkIdentity s).busLog = s.busLog := by
  unfold checkIdentity
  split
  · split <;> rfl
  · rfl

theorem verifyIdentity_traffic (s : State) : Traffic 1 s (verifyIdentity s) := by
  refine (seqTxn_traffic (txnId s.cfg) s).busLog_congr ?_
  unfold verifyIdentity
  dsimp only
  split
  · exact checkIdentity_busLog _
  · rfl

theorem readSample_traffic (r : Byte) {store drop : State → State} (hstore : ∀ u, (store u).busLog = u.busLog)
    (hdrop : ∀ u, (drop u).busLog = u.busLog) (s : State) : Traffic 1 s (readSample r store drop s) := by
  unfold readSample
  dsimp only
  split
  · refine (seqTxn_traffic (txnRd2 s.cfg r) s).busLog_congr ?_
    split
    · exact hstore _
    · exact hdrop _
  · exact traffic_of_busLog_eq 1 rfl

/-- The register writes make one call each and stop at the first failure (R189). -/
theorem writeRegs_traffic (l : List (Byte × Byte)) (s : State) : Traffic l.length s (writeRegs l s).1 := by
  induction l generalizing s with
  | nil => exact traffic_of_busLog_eq 0 rfl
  | cons rv l ih =>
    obtain ⟨out, hadm, hwrites⟩ := writeRegs_cons rv l s
    rw [hwrites]
    refine traffic_of_call (u := runWith out (loadTxn (txnCfg s.cfg rv.1 rv.2) s)) (by simp) hadm ?_ ?_
    · split
      · exact ih _
      · exact traffic_of_busLog_eq _ rfl
    · intro hfail
      rw [if_neg hfail]

theorem configure_traffic (s : State) : Traffic 5 s (configure s) := by
  unfold configure
  split
  · exact traffic_of_busLog_eq 5 rfl
  · exact (writeRegs_traffic (cfgList s.cfg) s).busLog_congr rfl

/-- The most calls a command makes (R67, R159, R189). -/
def maxCalls : Instr → Nat
  | .configure => 5
  | .execute | .verifyIdentity | .readAccelX | .readTemp => 1
  | .beginTxn | .start | .addr _ _ | .writeByte _ _ | .readByte _ | .stop => 0

theorem maxCalls_eq (i : Instr) :
    maxCalls i = if i = .configure then 5 else if i = .execute ∨ isSequencer i = true then 1 else 0 := by
  cases i <;> simp [maxCalls, isSequencer]

theorem exec_traffic {i : Instr} {s t : State} (h : exec i s = .next t) : Traffic (maxCalls i) s t := by
  cases i <;> cases h
  case beginTxn => exact traffic_of_busLog_eq 0 rfl
  case start | addr | writeByte | readByte | stop => exact traffic_of_busLog_eq 0 (builderStep_busLog _ s)
  case execute => exact executeTxn_traffic s
  case verifyIdentity => exact unlessBusy_traffic (verifyIdentity_traffic s)
  case configure => exact unlessBusy_traffic (configure_traffic s)
  case readAccelX => exact unlessBusy_traffic (readSample_traffic _ storeAccel_busLog dropAccel_busLog s)
  case readTemp => exact unlessBusy_traffic (readSample_traffic _ storeTemp_busLog dropTemp_busLog s)

/-- Settles O50: the traffic of each command (`exec_traffic`); only CONFIGURE makes a second call, and only after an `Ok`. -/
theorem busTrafficOfACommand : Obligations.BusTrafficOfACommand := by
  intro i s t hexec
  rw [← maxCalls_eq]
  exact exec_traffic hexec

end Sys2Proof.Machine
end

section
/-! Proofs of the family 20_memory, second part: a list of builder commands that the table of R113 admits is built as it
stands and handed to the transport; WRREG, RDREG and PROBE are such lists (R61, R89). -/

namespace Sys2Proof.Machine

/-! ### Runs of commands (R70) -/

theorem runCmds_cons {i : Instr} {s t : State} (h : exec i s = .next t) (l : List Instr) :
    runCmds (i :: l) s = runCmds l t := by
  simp [runCmds, h]

theorem runCmds_append {l : List Instr} {s t : State} (h : runCmds l s = .next t) (l' : List Instr) :
    runCmds (l ++ l') s = runCmds l' t := by
  induction l generalizing s with
  | nil => cases h; rfl
  | cons i l ih =>
    cases hexec : exec i s with
    | next u =>
      rw [runCmds_cons hexec] at h
      rw [List.cons_append, runCmds_cons hexec, ih h]
    | fault r => simp [runCmds, hexec] at h
    | refused r => simp [runCmds, hexec] at h

/-! ### Building a transaction (R111–R114) -/

/-- The command of a column of R113. -/
def builderInstr : BuilderCmd → Instr
  | .start => .start
  | .addr dir chk => .addr dir chk
  | .writeByte b chk => .writeByte b chk
  | .readByte pol => .readByte pol
  | .stop => .stop

theorem exec_builderInstr (c : BuilderCmd) (s : State) : exec (builderInstr c) s = .next (builderStep c s) := by
  cases c <;> rfl

/-- The phase the table of R113 leads to from `p`; none where a command is refused. -/
def tablePhase : Phase → List BuilderCmd → Option Phase
  | p, [] => some p
  | p, c :: cs =>
    match transTable p c with
    | .next q => tablePhase q cs
    | .bad _ => none

theorem tablePhase_cons_eq_some {p q : Phase} {c : BuilderCmd} {cs : List BuilderCmd} :
    tablePhase p (c :: cs) = some q ↔ ∃ r, transTable p c = .next r ∧ tablePhase r cs = some q := by
  cases h : transTable p c <;> simp [tablePhase, h]

/-- `t` is the block in phase `p`, its open transaction that of `s` and then `T`, and no bus traffic made on the way. -/
structure Built (p : Phase) (T : Txn) (s t : State) : Prop where
  inv : BlockInv t
  cfg_eq : t.cfg = s.cfg
  busLog_eq : t.busLog = s.busLog
  bph_eq : t.bph = p
  openTxn_eq : openTxn t = openTxn s ++ T

/-- An open transaction within its buffer has `BN` elements. -/
theorem BlockInv.openTxn_length {s : State} (h : BlockInv s) : (openTxn s).length = s.bn := by
  rw [openTxn, List.length_take_of_le (h.bufLength ▸ h.bnLe)]

/-- A command the table admits, with room for its element, appends it. -/
theorem builderStep_built {s : State} (h : BlockInv s) {c : BuilderCmd} {p : Phase} (hp : transTable s.bph c = .next p)
    (hroom : overCapacity (elementOf s.cfg c) s = false) : Built p [elementOf s.cfg c] s (builderStep c s) := by
  have hstep : builderStep c s = finish .ok (setPhase p (appendElement (elementOf s.cfg c) s)) := by
    simp [builderStep, hp, hroom]
  obtain ⟨hbn, -⟩ := (overCapacity_eq_false _ _).mp hroom
  rw [hstep]
  exact
    { inv := (h.append hp hroom).report (by simp)
      cfg_eq := rfl
      busLog_eq := rfl
      bph_eq := rfl
      openTxn_eq := openTxn_appendElement _ s (h.bufLength ▸ hbn) }

/-- Commands the table admits one after the other, with room for all their elements, append all of them. -/
theorem runCmds_built {cs : List BuilderCmd} {q : Phase} {s : State} (h : BlockInv s) (hq : tablePhase s.bph cs = some q)
    (hlength : (openTxn s ++ cs.map (elementOf s.cfg)).length ≤ s.cfg.txnCap)
    (hreads : countReads (openTxn s ++ cs.map (elementOf s.cfg)) ≤ s.cfg.rdCap) :
    ∃ t, runCmds (cs.map builderInstr) s = .next t ∧ Built q (cs.map (elementOf s.cfg)) s t := by
  induction cs generalizing s with
  | nil => exact ⟨s, rfl, h, rfl, rfl, Option.some.inj hq, by simp⟩
  | cons c cs ih =>
    obtain ⟨p, hp, hcs⟩ := tablePhase_cons_eq_some.mp hq
    rw [List.map_cons, List.append_cons] at hlength hreads
    have hroom : overCapacity (elementOf s.cfg c) s = false := by
      refine (overCapacity_eq_false _ _).mpr ⟨?_, fun hread => ?_⟩
      · rw [← h.openTxn_length]
        simp only [List.length_append, List.length_singleton] at hlength
        omega
      · rw [h.bnrCount]
        simp only [countReads_append, countReads_singleton, hread, if_true] at hreads
        omega
    have hc := builderStep_built h hp hroom
    obtain ⟨t, hrun, ht⟩ := ih hc.inv (by rw [hc.bph_eq]; exact hcs) (by rwa [hc.cfg_eq, hc.openTxn_eq])
      (by rwa [hc.cfg_eq, hc.openTxn_eq])
    rw [hc.cfg_eq] at ht
    exact
      ⟨t, by rw [List.map_cons, runCmds_cons (exec_builderInstr c s), hrun],
        { inv := ht.inv
          cfg_eq := ht.cfg_eq.trans hc.cfg_eq
          busLog_eq := ht.busLog_eq.trans hc.busLog_eq
          bph_eq := ht.bph_eq
          openTxn_eq := by rw [ht.openTxn_eq, hc.openTxn_eq, List.map_cons, ← List.append_cons] }⟩

/-! ### Building and executing -/

/-- BEGIN, the commands of `cs`, EXECUTE. -/
def buildAndExecute (cs : List BuilderCmd) : List Instr := .beginTxn :: (cs.map builderInstr ++ [.execute])

/-- `l`, run from `s`, hands the transport `T` and nothing else, and finishes with its answer's code. -/
def Transmits (T : Txn) (l : List Instr) (s : State) : Prop :=
  ∃ t out, runCmds l s = .next t ∧ t.code = answerCode out ∧ t.busLog = s.busLog ++ [(T, out)]

/-- Commands the table leads from `EMPTY` to `STOPPED`, within both capacities, hand the transport their elements. -/
theorem buildAndExecute_transmits {cs : List BuilderCmd} {s : State} (h : BlockInv s)
    (hphase : tablePhase .empty cs = some .stopped) (hlength : (cs.map (elementOf s.cfg)).length ≤ s.cfg.txnCap)
    (hreads : countReads (cs.map (elementOf s.cfg)) ≤ s.cfg.rdCap) :
    Transmits (cs.map (elementOf s.cfg)) (buildAndExecute cs) s := by
  have hbegin : BlockInv (finish .ok (setPhase .empty (discardTxn s))) := h.openEmpty.report (by simp)
  obtain ⟨u, hrun, hu⟩ := runCmds_built hbegin hphase hlength hreads
  obtain ⟨out, -, hcode, hlog⟩ := executeTxn_of_stopped hu.bph_eq
  refine ⟨executeTxn u, out, ?_, hcode, ?_⟩
  · rw [buildAndExecute, runCmds_cons rfl, runCmds_append hrun]
    rfl
  · rw [hlog, hu.busLog_eq, hu.openTxn_eq]
    rfl

/-! ### The macros (R61, R89) -/

theorem BlockInv.caps {s : State} (h : BlockInv s) : 8 ≤ s.cfg.txnCap ∧ 2 ≤ s.cfg.rdCap := by
  obtain ⟨-, hcaps, -⟩ := (config_wf_iff _).mp h.cfgWf
  obtain ⟨htxnCap, -, hrdCap, -⟩ := (capsWf_iff _).mp hcaps
  exact ⟨htxnCap, hrdCap⟩

theorem wrreg_transmits {s : State} (h : BlockInv s) (r v : Byte) :
    Transmits [.start, .wr (addressByte s.cfg .write) true, .wr r true, .wr v true, .stop] (wrreg r v) s := by
  obtain ⟨htxnCap, -⟩ := h.caps
  exact buildAndExecute_transmits (cs := [.start, .addr .write true, .writeByte r true, .writeByte v true, .stop]) h rfl
    (Nat.le_trans (by simp) htxnCap) (Nat.zero_le _)

theorem probe_transmits {s : State} (h : BlockInv s) :
    Transmits [.start, .wr (addressByte s.cfg .write) true, .stop] probe s := by
  obtain ⟨htxnCap, -⟩ := h.caps
  exact buildAndExecute_transmits (cs := [.start, .addr .write true, .stop]) h rfl (Nat.le_trans (by simp) htxnCap)
    (Nat.zero_le _)

/-- The builder commands of `RDREG r, n` that read: `n − 1` with ACK, the last with NACK, and the STOP. -/
def burstCmds (n : Nat) : List BuilderCmd := List.replicate (n - 1) (.readByte .ack) ++ [.readByte .nack, .stop]

/-- The builder commands of `RDREG r, n`. -/
def rdregCmds (r : Byte) (n : Nat) : List BuilderCmd :=
  [.start, .addr .write true, .writeByte r true, .start, .addr .read true] ++ burstCmds n

theorem rdregBody_eq (r : Byte) (n : Nat) : rdregBody r n = buildAndExecute (rdregCmds r n) := by
  simp [rdregBody, buildAndExecute, rdregCmds, burstCmds, builderInstr]

/-- A read phase admits a burst of any length, whether or not a byte has been read before it. -/
theorem tablePhase_burst {p : Phase} (hp : p = .rphaseAddr ∨ p = .rphaseMore) (k : Nat) :
    tablePhase p (List.replicate k (.readByte .ack) ++ [.readByte .nack, .stop]) = some .stopped := by
  induction k generalizing p with
  | zero => rcases hp with rfl | rfl <;> rfl
  | succ k ih => rcases hp with rfl | rfl <;> exact ih (.inr rfl)

theorem tablePhase_rdregCmds (r : Byte) (n : Nat) : tablePhase .empty (rdregCmds r n) = some .stopped :=
  tablePhase_burst (.inl rfl) (n - 1)

theorem countReads_replicate_rd (k : Nat) (pol : AckPolicy) : countReads (List.replicate k (.rd pol)) = k := by
  induction k with
  | zero => rfl
  | succ k ih => rw [List.replicate_succ, countReads, ih]

theorem rdreg_transmits {s : State} (h : BlockInv s) (r : Byte) {n : Nat} (hpos : 1 ≤ n) (hrdCap : n ≤ s.cfg.rdCap)
    (htxnCap : n + 6 ≤ s.cfg.txnCap) :
    Transmits
      ([.start, .wr (addressByte s.cfg .write) true, .wr r true, .start, .wr (addressByte s.cfg .read) true] ++
        List.replicate (n - 1) (.rd .ack) ++ [.rd .nack, .stop])
      (rdregBody r n) s := by
  have hmap : (rdregCmds r n).map (elementOf s.cfg) =
      [.start, .wr (addressByte s.cfg .write) true, .wr r true, .start, .wr (addressByte s.cfg .read) true] ++
        List.replicate (n - 1) (.rd .ack) ++ [.rd .nack, .stop] := by
    simp [rdregCmds, burstCmds, elementOf]
  rw [rdregBody_eq, ← hmap]
  refine buildAndExecute_transmits h (tablePhase_rdregCmds r n) ?_ ?_
  · simp only [hmap, List.length_append, List.length_cons, List.length_nil, List.length_replicate]
    omega
  · simp only [hmap, countReads_append, countReads_replicate_rd, countReads]
    omega

/-- Settles O53: WRREG, RDREG and PROBE are BEGIN, builder commands the table admits, EXECUTE (`buildAndExecute_transmits`). -/
theorem macrosReachTheDevice : Obligations.MacrosReachTheDevice := by
  intro s h
  refine ⟨fun r v => wrreg_transmits h r v, fun r n hpos hrdCap htxnCap => ?_, probe_transmits h⟩
  obtain ⟨t, out, hrun, hcode, hlog⟩ := rdreg_transmits h r hpos hrdCap htxnCap
  exact ⟨rdregBody r n, t, out, if_pos ⟨hpos, hrdCap, htxnCap⟩, hrun, hcode, hlog⟩

end Sys2Proof.Machine
end

section
/-! Proofs of the family 30_encoding, first part: the fields of a command word (R81, R82), decoding against encoding (R85),
and the step on an illegal word (R86). -/

namespace Sys2Proof

/-! ### The fields of a word (R81) -/

section
variable (opc : BitVec 4) (f8 : Bool) (low : Byte)

@[simp] theorem opcField_packWord : opcField (packWord opc f8 low) = opc := by
  ext k hk
  interval_cases k <;> simp [opcField, packWord, bitIn]

@[simp] theorem rsvField_packWord : rsvField (packWord opc f8 low) = 0 := by
  ext k hk
  interval_cases k <;> simp [rsvField, packWord, bitIn]

@[simp] theorem f8Field_packWord : f8Field (packWord opc f8 low) = f8 := by
  simp [f8Field, packWord, bitIn]

@[simp] theorem imm8Field_packWord : imm8Field (packWord opc f8 low) = low := by
  ext k hk
  interval_cases k <;> simp [imm8Field, packWord, bitIn]

end

/-- `OPC`, `RSV`, `F8` and `IMM8` are all of a word. -/
theorem word_ext {v w : CmdWord} (hopc : opcField v = opcField w) (hrsv : rsvField v = rsvField w)
    (hf8 : f8Field v = f8Field w) (himm8 : imm8Field v = imm8Field w) : v = w := by
  simp only [f8Field, BitVec.getLsbD, Nat.testBit_eq_decide_div_mod_eq, decide_eq_decide] at hf8
  simp only [opcField, rsvField, imm8Field, BitVec.toNat_eq, BitVec.extractLsb'_toNat, Nat.shiftRight_eq_div_pow] at *
  omega

theorem packWord_fields {w : CmdWord} (h : rsvField w = 0) : packWord (opcField w) (f8Field w) (imm8Field w) = w :=
  word_ext (by simp) (by simp [h]) (by simp) (by simp)

/-- In Format N `RSV`, `F8` and `IMM8` are all 0 (R82). -/
theorem operandField_eq_zero_iff (w : CmdWord) :
    operandField w = 0 ↔ rsvField w = 0 ∧ f8Field w = false ∧ imm8Field w = 0 := by
  simp only [operandField, rsvField, f8Field, imm8Field, BitVec.getLsbD, Nat.testBit_eq_decide_div_mod_eq,
    decide_eq_false_iff_not, BitVec.toNat_eq, BitVec.extractLsb'_toNat, Nat.shiftRight_eq_div_pow, BitVec.ofNat_eq_ofNat,
    BitVec.toNat_ofNat]
  omega

/-- In Format A `IMM8` is the direction bit alone (R82). -/
theorem addrRsvField_eq_zero_iff (w : CmdWord) : addrRsvField w = 0 ↔ imm8Field w = bitIn 8 (w.getLsbD 0) := by
  have hbit : w.getLsbD 0 = decide (w.toNat / 2 ^ 0 % 2 = 1) := Nat.testBit_eq_decide_div_mod_eq
  simp only [addrRsvField, imm8Field, BitVec.toNat_eq, BitVec.extractLsb'_toNat, Nat.shiftRight_eq_div_pow,
    BitVec.ofNat_eq_ofNat, BitVec.toNat_ofNat]
  generalize w.getLsbD 0 = b at hbit ⊢
  cases b <;> simp [bitIn] at hbit ⊢ <;> omega

theorem getLsbD_zero_eq_imm8Field (w : CmdWord) : w.getLsbD 0 = (imm8Field w).getLsbD 0 := by
  simp [imm8Field]

@[simp] theorem getLsbD_zero_bitIn (b : Bool) : (bitIn 8 b).getLsbD 0 = b := by cases b <;> rfl
@[simp] theorem dirOfBit_dirBit (dir : Dir) : dirOfBit (dirBit dir) = dir := by cases dir <;> rfl
@[simp] theorem dirBit_dirOfBit (b : Bool) : dirBit (dirOfBit b) = b := by cases b <;> rfl
@[simp] theorem policyOfBit_policyBit (pol : AckPolicy) : policyOfBit (policyBit pol) = pol := by cases pol <;> rfl
@[simp] theorem policyBit_policyOfBit (b : Bool) : policyBit (policyOfBit b) = b := by cases b <;> rfl

/-! ### Decoding the word of a command (R82, R84) -/

theorem decodeN_packWord (i : Instr) (opc : BitVec 4) : decodeN i (packWord opc false 0) = .command i :=
  if_pos ((operandField_eq_zero_iff _).mpr ⟨by simp, by simp, by simp⟩)

theorem decodeA_packWord (opc : BitVec 4) (dir : Dir) (chk : Bool) :
    decodeA (packWord opc chk (bitIn 8 (dirBit dir))) = .command (.addr dir chk) := by
  have hbit : (packWord opc chk (bitIn 8 (dirBit dir))).getLsbD 0 = dirBit dir := by
    rw [getLsbD_zero_eq_imm8Field, imm8Field_packWord, getLsbD_zero_bitIn]
  have hzero : addrRsvField (packWord opc chk (bitIn 8 (dirBit dir))) = 0 := by
    rw [addrRsvField_eq_zero_iff, imm8Field_packWord, hbit]
  rw [decodeA, if_pos ⟨rsvField_packWord .., hzero⟩, hbit, dirOfBit_dirBit, f8Field_packWord]

theorem decodeW_packWord (opc : BitVec 4) (imm8 : Byte) (chk : Bool) :
    decodeW (packWord opc chk imm8) = .command (.writeByte imm8 chk) := by
  rw [decodeW, if_pos (rsvField_packWord ..), imm8Field_packWord, f8Field_packWord]

theorem decodeR_packWord (opc : BitVec 4) (pol : AckPolicy) :
    decodeR (packWord opc (policyBit pol) 0) = .command (.readByte pol) := by
  rw [decodeR, if_pos ⟨rsvField_packWord .., imm8Field_packWord ..⟩, f8Field_packWord, policyOfBit_policyBit]

/-- The opcode of a command's word chooses the command's format (R84), which reads the operands back. -/
theorem decode_encode (i : Instr) : decode (encode i) = .command i := by
  rw [decode]
  cases i with
  | addr dir chk => rw [encode, opcField_packWord]; exact decodeA_packWord _ dir chk
  | writeByte imm8 chk => rw [encode, opcField_packWord]; exact decodeW_packWord _ imm8 chk
  | readByte pol => rw [encode, opcField_packWord]; exact decodeR_packWord _ pol
  | _ => rw [encode, opcField_packWord]; exact decodeN_packWord _ _

/-! ### The command of a word (R85) -/

section
variable {w : CmdWord} {i j : Instr}

theorem encode_of_decodeN (hdecode : decodeN i w = .command j) (hi : encode i = packWord (opcField w) false 0) :
    encode j = w := by
  unfold decodeN at hdecode
  split at hdecode <;> cases hdecode
  next hzero =>
    obtain ⟨hrsv, hf8, himm8⟩ := (operandField_eq_zero_iff w).mp hzero
    rw [hi, ← hf8, ← himm8, packWord_fields hrsv]

theorem encode_of_decodeA (hopc : opcField w = 0x3) (hdecode : decodeA w = .command j) : encode j = w := by
  unfold decodeA at hdecode
  split at hdecode <;> cases hdecode
  next hzero =>
    obtain ⟨hrsv, haddr⟩ := hzero
    rw [encode, dirBit_dirOfBit, ← (addrRsvField_eq_zero_iff w).mp haddr, ← hopc, packWord_fields hrsv]

theorem encode_of_decodeW (hopc : opcField w = 0x4) (hdecode : decodeW w = .command j) : encode j = w := by
  unfold decodeW at hdecode
  split at hdecode <;> cases hdecode
  next hrsv => rw [encode, ← hopc, packWord_fields hrsv]

theorem encode_of_decodeR (hopc : opcField w = 0x5) (hdecode : decodeR w = .command j) : encode j = w := by
  unfold decodeR at hdecode
  split at hdecode <;> cases hdecode
  next hzero =>
    obtain ⟨hrsv, himm8⟩ := hzero
    rw [encode, policyBit_policyOfBit, ← hopc, ← himm8, packWord_fields hrsv]

theorem encode_of_decode (hdecode : decode w = .command j) : encode j = w := by
  have hopc : ∀ {n : Nat}, (opcField w).toNat = n → opcField w = BitVec.ofNat 4 n := by
    rintro _ rfl
    rw [BitVec.ofNat_toNat, BitVec.setWidth_eq]
  unfold decode at hdecode
  split at hdecode
  case h_3 h => exact encode_of_decodeA (hopc h) hdecode
  case h_4 h => exact encode_of_decodeW (hopc h) hdecode
  case h_5 h => exact encode_of_decodeR (hopc h) hdecode
  case h_12 => cases hdecode
  all_goals
    next h => exact encode_of_decodeN hdecode (congrArg (packWord · false 0) (hopc h).symm)

end

/-- Every command has one word, and no other word decodes to it. -/
theorem decode_eq_command_iff (w : CmdWord) (i : Instr) : decode w = .command i ↔ encode i = w :=
  ⟨encode_of_decode, fun h => h ▸ decode_encode i⟩

/-! ### The obligations on decoding -/

/-- Settles O2: well-formedness asks nothing of a command (R83), so this is `decode_encode`. -/
theorem decodeOfEncode : Obligations.DecodeOfEncode :=
  fun i _ => decode_encode i

/-- Settles O3: by `decode_eq_command_iff` a word some command has decodes to that command, so it is not illegal. -/
theorem encodeOfDecode : Obligations.EncodeOfDecode := by
  refine fun w => ⟨fun i => (decode_eq_command_iff w i).mp, fun why hillegal i hword => ?_⟩
  have hcommand : decode w = .command i := (decode_eq_command_iff w i).mpr hword
  cases hillegal.symm.trans hcommand

/-- Settles O1: each legal word is the word of its command (`decode_encode`); the illegal ones are decoded one by one. -/
theorem specWordsDecode : Obligations.SpecWordsDecode := by
  refine ⟨decode_encode .beginTxn, decode_encode .start, decode_encode .stop, decode_encode .execute,
    decode_encode .verifyIdentity, decode_encode .configure, decode_encode .readAccelX, decode_encode .readTemp,
    decode_encode (.addr .write true), decode_encode (.addr .read true), decode_encode (.addr .write false),
    decode_encode (.addr .read false), decode_encode (.writeByte 0x75 true), decode_encode (.writeByte 0x00 false),
    decode_encode (.writeByte 0xFF true), decode_encode (.readByte .ack), decode_encode (.readByte .nack), fun w hw => ?_⟩
  fin_cases hw <;> rfl

end Sys2Proof

namespace Sys2Proof.Machine

/-- Settles O9: a word that decoded to a command would be that command's (`decode_eq_command_iff`), so the step is the one
on an illegal word. -/
theorem illegalWordOnlyReports : Obligations.IllegalWordOnlyReports := by
  intro s w rest hhost hnone
  cases hdecode : decode w with
  | command i => exact absurd ((decode_eq_command_iff w i).mp hdecode) (hnone i)
  | illegal why =>
    rw [step_illegal hhost hdecode, popInput_of_host_eq_cons hhost]
    rfl

end Sys2Proof.Machine
end

section
/-! Proofs of the family 30_encoding, second part: the 11-bit forms of the elements (R90, R91). -/

namespace Sys2Proof.Machine

section
variable (kind : BitVec 2) (flag : Bool) (data : Byte)

theorem packElement_kind : (packElement kind flag data).extractLsb' 9 2 = kind := by
  ext k hk
  interval_cases k <;> simp [packElement, bitIn]

theorem packElement_flag : (packElement kind flag data).getLsbD 8 = flag := by
  simp [packElement, bitIn]

theorem packElement_data : (packElement kind flag data).extractLsb' 0 8 = data := by
  ext k hk
  interval_cases k <;> simp [packElement, bitIn]

end

/-- The element with this 11-bit form. -/
def elementOfBits (e : BitVec 11) : Element :=
  match (e.extractLsb' 9 2).toNat with
  | 0 => .start
  | 1 => .wr (e.extractLsb' 0 8) (e.getLsbD 8)
  | 2 => .rd (policyOfBit (e.getLsbD 8))
  | _ => .stop

theorem elementOfBits_elementBits (e : Element) : elementOfBits (elementBits e) = e := by
  cases e with
  | start => rfl
  | wr b chk => simp only [elementOfBits, elementBits, packElement_kind, packElement_flag, packElement_data]; rfl
  | rd pol => simp only [elementOfBits, elementBits, packElement_kind, packElement_flag, policyOfBit_policyBit]; rfl
  | stop => rfl

theorem elementBits_wr (b : Byte) (chk : Bool) :
    elementBits (.wr b chk) = 0x200#11 ||| (if chk then 0x100#11 else 0#11) ||| b.setWidth 11 := by
  cases chk <;> rfl

theorem addressByte_setWidth (c : Config) (dir : Dir) :
    (addressByte c dir).setWidth 11 = (c.devAddr.setWidth 11 <<< 1) ||| (if dir = .read then 1#11 else 0#11) := by
  ext k hk
  interval_cases k <;> cases dir <;> simp [addressByte, bitIn, dirBit]

theorem elementBits_addr (c : Config) (dir : Dir) (chk : Bool) : elementBits (elementOf c (.addr dir chk)) =
    0x200#11 ||| (if chk then 0x100#11 else 0#11) ||| (c.devAddr.setWidth 11 <<< 1) |||
      (if dir = .read then 1#11 else 0#11) := by
  rw [elementOf, elementBits_wr, addressByte_setWidth, BitVec.or_assoc, BitVec.or_assoc, BitVec.or_assoc]

/-- Settles O4: the forms by `elementBits_wr` and `elementBits_addr`; a form can be read back (`elementOfBits`), so no two
elements share one. -/
theorem elementForms : Obligations.ElementForms := by
  refine ⟨rfl, rfl, rfl, rfl, fun b => elementBits_wr b false, fun b => elementBits_wr b true, elementBits_addr,
    fun c b chk pol => ⟨rfl, rfl, rfl, rfl⟩, fun c hdev => ?_, fun e f h => ?_⟩
  · simp only [elementBits_addr, hdev]
    decide
  · rw [← elementOfBits_elementBits e, h, elementOfBits_elementBits]

end Sys2Proof.Machine
end

section
/-! Proofs of the family 30_encoding, third part: the assembler on its own text (R88, log 18). -/

namespace Sys2Proof.Machine

/-! ### Splitting a line -/

theorem stripLine_cons {c : Char} (hc : c ≠ ';') (l : List Char) : stripLine (c :: l) = c.toUpper :: stripLine l := by
  simp [stripLine, hc]

/-- Characters that are neither white space nor a comma go on with the token being read. -/
theorem tokensFrom_append {w : List Char} (hw : ∀ c ∈ w, c.isWhitespace = false ∧ c ≠ ',') (cur : Token)
    (l : List Char) : tokensFrom cur (w ++ l) = tokensFrom (cur ++ w) l := by
  induction w generalizing cur with
  | nil => simp
  | cons c w ih =>
    obtain ⟨⟨hspace, hcomma⟩, hw⟩ := List.forall_mem_cons.mp hw
    simp [tokensFrom, hspace, hcomma, ih hw]

theorem flushToken_of_ne_nil {cur : Token} (hcur : cur ≠ []) : flushToken cur = [cur] := if_neg hcur

theorem tokensFrom_space {cur : Token} (hcur : cur ≠ []) (l : List Char) :
    tokensFrom cur (' ' :: l) = cur :: tokensFrom [] l := by
  rw [tokensFrom, if_pos (by decide), flushToken_of_ne_nil hcur, List.singleton_append]

/-! ### A byte, written and read -/

/-- The text of a byte in upper case, as the assembler reads it. -/
def byteToken (b : Byte) : Token := ['0', 'X', hexDigit (b.toNat / 16), hexDigit (b.toNat % 16)]

theorem digitVal_hexDigit {n : Nat} (hn : n < 16) : digitVal 16 (hexDigit n) = some n := by
  revert n
  decide

/-- A hexadecimal digit is in upper case, and none of the characters that separate tokens or start a comment. -/
theorem hexDigit_plain {n : Nat} (hn : n < 16) :
    (hexDigit n).toUpper = hexDigit n ∧ hexDigit n ≠ ';' ∧ (hexDigit n).isWhitespace = false ∧ hexDigit n ≠ ',' := by
  revert n
  decide

theorem byte_digits_lt (b : Byte) : b.toNat / 16 < 16 ∧ b.toNat % 16 < 16 := by
  have := b.isLt
  omega

theorem byteOf_byteToken (b : Byte) : byteOf (byteToken b) = some b := by
  obtain ⟨hhi, hlo⟩ := byte_digits_lt b
  have hnum : numberOf (byteToken b) = some b.toNat := by
    simp only [byteToken, numberOf, digitsVal, digitVal_hexDigit hhi, digitVal_hexDigit hlo, Option.some.injEq]
    omega
  simp [byteOf, hnum, b.isLt]

theorem stripLine_byteText (b : Byte) (l : List Char) : stripLine (byteText b ++ l) = byteToken b ++ stripLine l := by
  obtain ⟨hhi, hlo⟩ := byte_digits_lt b
  obtain ⟨hhiUpper, hhiSemi, -⟩ := hexDigit_plain hhi
  obtain ⟨hloUpper, hloSemi, -⟩ := hexDigit_plain hlo
  simp only [byteText, byteToken, List.cons_append, List.nil_append]
  rw [stripLine_cons (by decide), stripLine_cons (by decide), stripLine_cons hhiSemi, stripLine_cons hloSemi, hhiUpper,
    hloUpper]
  rfl

theorem tokensFrom_byteToken (b : Byte) (l : List Char) : tokensFrom [] (byteToken b ++ l) = tokensFrom (byteToken b) l := by
  obtain ⟨hhi, hlo⟩ := byte_digits_lt b
  obtain ⟨-, -, hhiPlain⟩ := hexDigit_plain hhi
  obtain ⟨-, -, hloPlain⟩ := hexDigit_plain hlo
  refine tokensFrom_append ?_ [] l
  simp only [byteToken, List.forall_mem_cons]
  exact ⟨by decide, by decide, hhiPlain, hloPlain, by simp⟩

/-! ### WRITE_BYTE -/

/-- The tokens of `, CHK` or `, NOCHK`. -/
def chkTokens (chk : Bool) : List Token := [[','], if chk then "CHK".toList else "NOCHK".toList]

theorem chkOf_chkTokens (chk : Bool) : chkOf (chkTokens chk) = some chk := by
  cases chk <;> rfl

theorem tokensFrom_chkText {cur : Token} (hcur : cur ≠ []) (chk : Bool) :
    tokensFrom cur (stripLine (chkText chk)) = cur :: chkTokens chk := by
  have hsplit : tokensFrom cur (stripLine (chkText chk)) = flushToken cur ++ chkTokens chk := by
    cases chk <;> rfl
  rw [hsplit, flushToken_of_ne_nil hcur, List.singleton_append]

theorem tokens_writeByte (b : Byte) (chk : Bool) :
    tokensFrom [] (stripLine (asmText (.writeByte b chk))) = "WRITE_BYTE".toList :: byteToken b :: chkTokens chk := by
  have htext : asmText (.writeByte b chk) = "WRITE_BYTE ".toList ++ (byteText b ++ chkText chk) :=
    List.append_assoc _ _ _
  have hstrip : ∀ l, stripLine ("WRITE_BYTE ".toList ++ l) = "WRITE_BYTE".toList ++ ' ' :: stripLine l := fun _ => rfl
  rw [htext, hstrip, tokensFrom_append (by simp), List.nil_append, tokensFrom_space (by simp),
    stripLine_byteText, tokensFrom_byteToken, tokensFrom_chkText (cur := byteToken b) (by simp [byteToken])]

theorem assembleLine_writeByte (c : Config) (b : Byte) (chk : Bool) :
    assembleLine c (asmText (.writeByte b chk)) = some [.writeByte b chk] := by
  have hops : writeOperands (byteToken b :: chkTokens chk) = some (.writeByte b chk) := by
    simp only [writeOperands, byteOf_byteToken, chkOf_chkTokens]
  calc
    assembleLine c (asmText (.writeByte b chk))
      = assembleTokens c ("WRITE_BYTE".toList :: byteToken b :: chkTokens chk) := congrArg _ (tokens_writeByte b chk)
    _ = (writeOperands (byteToken b :: chkTokens chk)).map fun i => [i] := rfl
    _ = some [.writeByte b chk] := by rw [hops, Option.map_some]

/-! ### The obligation -/

/-- Settles O5: WRITE_BYTE by `assembleLine_writeByte`; the text of any other command is one of fourteen fixed lines, on
which the assembler is run. -/
theorem assemblerReadsBack : Obligations.AssemblerReadsBack := by
  intro c i
  cases i with
  | writeByte b chk => exact assembleLine_writeByte c b chk
  | addr dir chk => cases dir <;> cases chk <;> rfl
  | readByte pol => cases pol <;> rfl
  | _ => rfl

end Sys2Proof.Machine
end

section
/-! Proofs of the family 40_builder, first part: the six builder commands one by one, and what none of them touches
(R116–R133). -/

namespace Sys2Proof.Machine

/-! ### The two finishes of a builder command (R111, R112, R114) -/

/-- A command whose entry in the table of R113 is a reason is refused with it. -/
theorem refuses_of_bad {c : BuilderCmd} {p : Phase} {r : MReason} {s : State} (hr : transTable p c = .bad r)
    (hp : s.bph = p) : Refuses r (builderInstr c) s := by
  rw [Refuses, exec_builderInstr, builderStep, hp, hr]
  rfl

/-- A command the table of R113 admits is refused for capacity where its element has no room. -/
theorem refuses_of_overCapacity {c : BuilderCmd} {p : Phase} {s : State} (hp : transTable s.bph c = .next p)
    (hfull : overCapacity (elementOf s.cfg c) s = true) : Refuses .capacity (builderInstr c) s := by
  simp only [Refuses, exec_builderInstr, builderStep, hp, hfull, if_true]
  rfl

/-- `OK` sets no bit of STICKY (R25). -/
theorem stickyAfter_ok (v : BitVec 8) : stickyAfter .ok v = v := BitVec.or_zero

/-- A command the table of R113 admits appends its element where that has room. -/
theorem appends_of_room {c : BuilderCmd} {p : Phase} {s : State} (hp : transTable s.bph c = .next p)
    (hroom : overCapacity (elementOf s.cfg c) s = false) :
    Appends (elementOf s.cfg c) (countReads [elementOf s.cfg c]) p (builderInstr c) s := by
  simp only [Appends, exec_builderInstr, builderStep, hp, hroom, countReads_singleton]
  cases hread : isRead (elementOf s.cfg c) <;>
    simp [finish, setStatus, setPhase, appendElement, hread, stickyAfter_ok]

section
variable {e : Element} {s : State}

theorem overCapacity_of_bn_eq (h : s.bn = s.cfg.txnCap) : overCapacity e s = true := by
  simp [overCapacity, h]

theorem overCapacity_of_bnr_eq (he : isRead e = true) (h : s.bnr = s.cfg.rdCap) : overCapacity e s = true := by
  simp [overCapacity, he, h]

theorem overCapacity_of_not_isRead (he : isRead e = false) (h : s.bn < s.cfg.txnCap) : overCapacity e s = false :=
  (overCapacity_eq_false e s).mpr ⟨h, by simp [he]⟩

end

/-! ### The operands as the obligations write them (R14, R113) -/

theorem addressByte_eq (c : Config) (dir : Dir) :
    addressByte c dir = BitVec.ofNat 8 (c.devAddr.toNat * 2 + if dir = .read then 1 else 0) := by
  have hlt := c.devAddr.isLt
  have hshift : c.devAddr.toNat * 2 % 256 = 2 * c.devAddr.toNat := by omega
  have hor : 2 * c.devAddr.toNat ||| 1 = 2 * c.devAddr.toNat + 1 :=
    (Nat.two_pow_add_eq_or_of_lt (i := 1) (by decide) _).symm
  apply BitVec.eq_of_toNat_eq
  cases dir with
  | write => simp [addressByte, bitIn, dirBit, Nat.shiftLeft_eq]
  | read =>
    simp [addressByte, bitIn, dirBit, Nat.shiftLeft_eq, hshift, hor]
    omega

theorem phaseOfDir_eq (dir : Dir) : phaseOfDir dir = if dir = .read then .rphaseAddr else .wphase := by
  cases dir <;> rfl

theorem phaseOfDir_dirOfBit (b : Bool) : phaseOfDir (dirOfBit b) = if b then .rphaseAddr else .wphase := by
  cases b <;> rfl

theorem phaseOfPolicy_eq (pol : AckPolicy) : phaseOfPolicy pol = if pol = .ack then .rphaseMore else .rphaseDone := by
  cases pol <;> rfl

/-! ### The commands -/

/-- Settles O16: BEGIN reports `OK`, which leaves STICKY as it is. -/
theorem beginOpens : Obligations.BeginOpens := by
  refine ⟨rfl, fun s => ?_⟩
  have hexec : exec .beginTxn s = .next (finish .ok (setPhase .empty (discardTxn s))) := rfl
  simp [hexec, finish, setStatus, setPhase, discardTxn, stickyAfter_ok]

/-- Settles O17: the column START of R113. -/
theorem startCommand : Obligations.StartCommand := by
  refine ⟨rfl, rfl, fun s => ?_⟩
  have hbad {p r} := @refuses_of_bad .start p r s
  have hnext : s.bph = .empty ∨ s.bph = .wphase ∨ s.bph = .rphaseDone →
      transTable s.bph .start = .next .afterStart := by
    rintro (h | h | h) <;> rw [h] <;> rfl
  exact
    ⟨fun hp hroom => appends_of_room (c := .start) (hnext hp) (overCapacity_of_not_isRead rfl hroom),
      fun hp hfull => refuses_of_overCapacity (c := .start) (hnext hp) (overCapacity_of_bn_eq hfull),
      hbad rfl, hbad rfl, hbad rfl, hbad rfl, hbad rfl⟩

/-- Settles O18: the column ADDR of R113; the element is the address+direction byte of R14. -/
theorem addrCommand : Obligations.AddrCommand := by
  refine ⟨fun dir chk => by cases dir <;> cases chk <;> rfl, fun s dir chk => ?_⟩
  have hbad {p r} := @refuses_of_bad (.addr dir chk) p r s
  have hnext : s.bph = .afterStart →
      transTable s.bph (.addr dir chk) = .next (if dir = .read then .rphaseAddr else .wphase) := by
    intro h
    rw [h, ← phaseOfDir_eq]
    rfl
  rw [← addressByte_eq]
  refine
    ⟨fun hp hroom => appends_of_room (c := .addr dir chk) (hnext hp) (overCapacity_of_not_isRead rfl hroom),
      fun hp hfull => refuses_of_overCapacity (c := .addr dir chk) (hnext hp) (overCapacity_of_bn_eq hfull),
      hbad rfl, hbad rfl, ?_, hbad rfl⟩
  rintro (h | h | h | h) <;> exact hbad rfl h

/-- Settles O19: the column WRITE_BYTE of R113; bit 0 of an address byte is its direction. -/
theorem writeByteCommand : Obligations.WriteByteCommand := by
  refine ⟨fun b chk => by cases chk <;> rfl, fun s b chk => ?_⟩
  have hbad {p r} := @refuses_of_bad (.writeByte b chk) p r s
  have haddress : s.bph = .afterStart →
      transTable s.bph (.writeByte b chk) = .next (if b.getLsbD 0 then .rphaseAddr else .wphase) := by
    intro h
    rw [h, ← phaseOfDir_dirOfBit]
    rfl
  have hdata : s.bph = .wphase → transTable s.bph (.writeByte b chk) = .next .wphase := by
    intro h
    rw [h]
    rfl
  refine
    ⟨fun hp hroom => appends_of_room (c := .writeByte b chk) (haddress hp) (overCapacity_of_not_isRead rfl hroom),
      fun hp hroom => appends_of_room (c := .writeByte b chk) (hdata hp) (overCapacity_of_not_isRead rfl hroom),
      fun hp hfull => ?_, hbad rfl, hbad rfl, ?_, hbad rfl⟩
  · have hover : overCapacity (elementOf s.cfg (.writeByte b chk)) s = true := overCapacity_of_bn_eq hfull
    rcases hp with hp | hp
    · exact refuses_of_overCapacity (haddress hp) hover
    · exact refuses_of_overCapacity (hdata hp) hover
  · rintro (h | h | h) <;> exact hbad rfl h

/-- Settles O20: the column READ_BYTE of R113; a read needs a free read slot too (R114). -/
theorem readByteCommand : Obligations.ReadByteCommand := by
  refine ⟨rfl, rfl, fun s pol => ?_⟩
  have hbad {p r} := @refuses_of_bad (.readByte pol) p r s
  have hnext : s.bph = .rphaseAddr ∨ s.bph = .rphaseMore →
      transTable s.bph (.readByte pol) = .next (if pol = .ack then .rphaseMore else .rphaseDone) := by
    rw [← phaseOfPolicy_eq]
    rintro (h | h) <;> rw [h] <;> rfl
  exact
    ⟨fun hp hbn hbnr =>
        appends_of_room (c := .readByte pol) (hnext hp) ((overCapacity_eq_false _ _).mpr ⟨hbn, fun _ => hbnr⟩),
      fun hp hfull => refuses_of_overCapacity (c := .readByte pol) (hnext hp)
        (hfull.elim overCapacity_of_bn_eq (overCapacity_of_bnr_eq rfl)),
      hbad rfl, hbad rfl, hbad rfl, hbad rfl, hbad rfl, hbad rfl⟩

/-- Settles O21: the column STOP of R113. -/
theorem stopCommand : Obligations.StopCommand := by
  refine ⟨rfl, rfl, fun s => ?_⟩
  have hbad {p r} := @refuses_of_bad .stop p r s
  have hnext : s.bph = .wphase ∨ s.bph = .rphaseDone → transTable s.bph .stop = .next .stopped := by
    rintro (h | h) <;> rw [h] <;> rfl
  exact
    ⟨fun hp hroom => appends_of_room (c := .stop) (hnext hp) (overCapacity_of_not_isRead rfl hroom),
      fun hp hfull => refuses_of_overCapacity (c := .stop) (hnext hp) (overCapacity_of_bn_eq hfull),
      hbad rfl, hbad rfl, hbad rfl, hbad rfl, hbad rfl, hbad rfl⟩

/-! ### What no builder command touches (R116, R117) -/

/-- A builder command is BEGIN or a column of R113. -/
theorem isBuilder_iff (i : Instr) : isBuilder i = true ↔ i = .beginTxn ∨ ∃ c, i = builderInstr c := by
  constructor
  · intro h
    cases i with
    | beginTxn => exact .inl rfl
    | start => exact .inr ⟨.start, rfl⟩
    | addr dir chk => exact .inr ⟨.addr dir chk, rfl⟩
    | writeByte imm8 chk => exact .inr ⟨.writeByte imm8 chk, rfl⟩
    | readByte pol => exact .inr ⟨.readByte pol, rfl⟩
    | stop => exact .inr ⟨.stop, rfl⟩
    | execute | verifyIdentity | configure | readAccelX | readTemp => exact absurd h Bool.false_ne_true
  · rintro (rfl | ⟨c, rfl⟩)
    · rfl
    · cases c <;> rfl

theorem builderInstr_ne_beginTxn (c : BuilderCmd) : builderInstr c ≠ .beginTxn := by
  cases c <;> simp [builderInstr]

/-- `t` differs from `s` at most in the builder's own state and the reported status. -/
def OnlyBuilds (s t : State) : Prop :=
  t = { s with
    bph := t.bph, buf := t.buf, bn := t.bn, bnr := t.bnr, code := t.code, mreason := t.mreason, sticky := t.sticky }

theorem builderStep_onlyBuilds (c : BuilderCmd) (s : State) : OnlyBuilds s (builderStep c s) := by
  obtain ⟨r, -, h⟩ | ⟨p, -, -, h⟩ | ⟨p, -, -, h⟩ := builderStep_cases c s <;> rw [h] <;> rfl

theorem builderStep_code (c : BuilderCmd) (s : State) :
    (builderStep c s).code = .ok ∨ (builderStep c s).code = .malformed := by
  obtain ⟨r, -, h⟩ | ⟨p, -, -, h⟩ | ⟨p, -, -, h⟩ := builderStep_cases c s <;> rw [h]
  · exact .inr rfl
  · exact .inr rfl
  · exact .inl rfl

/-- Settles O22: BEGIN opens a transaction (`beginOpens`); any other builder command is a `BuilderStep`. -/
theorem builderLeavesTheRestAlone : Obligations.BuilderLeavesTheRestAlone := by
  intro i s t hi hexec
  obtain rfl | ⟨c, rfl⟩ := (isBuilder_iff i).mp hi
  · rw [beginOpens.2 s] at hexec
    cases hexec
    exact ⟨rfl, .inl rfl, fun _ => rfl⟩
  · rw [exec_builderInstr] at hexec
    cases hexec
    exact ⟨builderStep_onlyBuilds c s, builderStep_code c s, fun h => absurd h (builderInstr_ne_beginTxn c)⟩

end Sys2Proof.Machine
end

section
/-! Proofs of the family 40_builder, second part: the transactions the builder can hold in `STOPPED` are exactly the
well-formed ones (R115). -/

namespace Sys2Proof.Machine

/-- Settles O23: the invariant gives both, the shape by `BlockInv.txnWf_openTxn`. -/
theorem stoppedIsWellFormed : Obligations.StoppedIsWellFormed :=
  fun _ hinv hstopped => ⟨hinv.txnWf_openTxn hstopped, hinv.bnrCount⟩

/-! ### Every well-formed transaction scans to `STOPPED` (R26, R115 (a)–(d)) -/

/-- A phase after the first START and before the STOP. -/
def Ongoing (p : Phase) : Prop := p ≠ .closed ∧ p ≠ .empty ∧ p ≠ .stopped

/-- A phase that R115 (b)–(d) let end here admits a START and a STOP. -/
theorem phaseStep_of_bodyFrom_nil {p : Phase} (hp : Ongoing p) (h : bodyFrom p [] = true) :
    phaseStep p .start = some .afterStart ∧ phaseStep p .stop = some .stopped := by
  obtain ⟨hclosed, hempty, hstopped⟩ := hp
  cases p <;> simp_all [bodyFrom, phaseBody, readBurst, phaseStep]

/-- A phase admits a WR that R115 (b)–(d) allow in it, and the rest completes the phase it leads to. -/
theorem phaseStep_of_bodyFrom_wr {p : Phase} {b : Byte} {chk : Bool} {T : Txn} (hp : Ongoing p)
    (h : bodyFrom p (.wr b chk :: T) = true) :
    ∃ q, phaseStep p (.wr b chk) = some q ∧ Ongoing q ∧ bodyFrom q T = true := by
  obtain ⟨hclosed, hempty, hstopped⟩ := hp
  cases p with
  | closed | empty | stopped => contradiction
  | afterStart =>
    refine ⟨_, rfl, ?_⟩
    cases hb : b.getLsbD 0 <;> simp_all [Ongoing, bodyFrom, phaseBody]
  | wphase => exact ⟨.wphase, rfl, by simp [Ongoing], h⟩
  | rphaseAddr | rphaseMore => simp [bodyFrom, readBurst] at h
  | rphaseDone => simp [bodyFrom] at h

/-- A phase admits an RD that R115 (d) allows in it, and the rest completes the phase it leads to. -/
theorem phaseStep_of_bodyFrom_rd {p : Phase} {pol : AckPolicy} {T : Txn} (hp : Ongoing p)
    (h : bodyFrom p (.rd pol :: T) = true) :
    ∃ q, phaseStep p (.rd pol) = some q ∧ Ongoing q ∧ bodyFrom q T = true := by
  obtain ⟨hclosed, hempty, hstopped⟩ := hp
  cases p with
  | closed | empty | stopped => contradiction
  | afterStart => simp [bodyFrom, phaseBody] at h
  | wphase => simp [bodyFrom, isWr] at h
  | rphaseAddr | rphaseMore =>
    refine ⟨_, rfl, ?_⟩
    cases pol with
    | ack => exact ⟨by simp [Ongoing], h⟩
    | nack =>
      have hnil : T = [] := by cases T <;> simp_all [bodyFrom, readBurst]
      simp [Ongoing, bodyFrom, hnil]
  | rphaseDone => simp [bodyFrom] at h

/-- The converse of `phaseBodies_of_scan`: elements that complete the phase, whole phases and a STOP are all admitted. -/
theorem scan_of_phaseBodies {p : Phase} {T : Txn} (hp : Ongoing p) (hstop : Element.stop ∉ T)
    (hbody : bodyFrom p (splitPhases (T ++ [.stop])).1 = true)
    (hlater : (splitPhases (T ++ [.stop])).2.all phaseBody = true) : scan p (T ++ [.stop]) = some .stopped := by
  induction T generalizing p with
  | nil => exact scan_cons_eq_some.mpr ⟨_, (phaseStep_of_bodyFrom_nil hp hbody).2, rfl⟩
  | cons e T ih =>
    obtain ⟨he, hT⟩ := not_or.mp (List.mem_cons.not.mp hstop)
    cases e with
    | start =>
      obtain ⟨hfirst, hrest⟩ := Bool.and_eq_true_iff.mp hlater
      exact scan_cons_eq_some.mpr
        ⟨_, (phaseStep_of_bodyFrom_nil hp hbody).1, ih (by simp [Ongoing]) hT hfirst hrest⟩
    | stop => exact absurd rfl he
    | wr b chk =>
      obtain ⟨q, hq, hongoing, hqbody⟩ := phaseStep_of_bodyFrom_wr hp hbody
      exact scan_cons_eq_some.mpr ⟨q, hq, ih hongoing hT hqbody hlater⟩
    | rd pol =>
      obtain ⟨q, hq, hongoing, hqbody⟩ := phaseStep_of_bodyFrom_rd hp hbody
      exact scan_cons_eq_some.mpr ⟨q, hq, ih hongoing hT hqbody hlater⟩

/-- R115 (a) as a form: START, elements other than STOP, STOP. -/
theorem eq_of_startStop {T : Txn} (h : startStop T = true) :
    ∃ U, T = .start :: (U ++ [.stop]) ∧ Element.stop ∉ U := by
  simp only [startStop, Bool.and_eq_true, decide_eq_true_eq] at h
  obtain ⟨⟨hfirst, hlast⟩, hstop⟩ := h
  have hT := List.dropLast_append_getLast? _ hlast
  rw [← hT] at hfirst
  cases hV : T.dropLast with
  | nil => simp [hV] at hfirst
  | cons e U =>
    simp only [hV, List.cons_append, List.head?_cons, Option.some.injEq, List.mem_cons, not_or] at hfirst hstop hT
    exact ⟨U, hfirst ▸ hT.symm, hstop.2⟩

/-- The converse of `txnShape_of_scan`. -/
theorem scan_of_txnShape {T : Txn} (h : txnShape T = true) : scan .empty T = some .stopped := by
  obtain ⟨hform, hbodies⟩ := Bool.and_eq_true_iff.mp h
  obtain ⟨U, rfl, hstop⟩ := eq_of_startStop hform
  obtain ⟨hbody, hlater⟩ := Bool.and_eq_true_iff.mp hbodies
  exact scan_of_phaseBodies (by simp [Ongoing]) hstop hbody hlater

/-! ### Building it (R110, R114, R127) -/

/-- A command that appends `e`; an address byte by WRITE_BYTE, which R127 allows. -/
def appendingCmd : Element → BuilderCmd
  | .start => .start
  | .wr b chk => .writeByte b chk
  | .rd pol => .readByte pol
  | .stop => .stop

@[simp] theorem elementOf_appendingCmd (c : Config) (e : Element) : elementOf c (appendingCmd e) = e := by
  cases e <;> rfl

/-- The table of R113 admits the command of any element that R26 admits, and moves alike. -/
theorem transTable_appendingCmd {p q : Phase} {e : Element} (h : phaseStep p e = some q) :
    transTable p (appendingCmd e) = .next q := by
  cases e with
  | start =>
    obtain ⟨hp, rfl⟩ := phaseStep_start.mp h
    rcases hp with rfl | rfl | rfl <;> rfl
  | wr b chk =>
    obtain ⟨rfl, rfl⟩ | ⟨rfl, rfl⟩ := phaseStep_wr.mp h
    · rw [← phaseOfDir_dirOfBit]
      rfl
    · rfl
  | rd pol =>
    obtain ⟨hp, rfl⟩ := phaseStep_rd.mp h
    rw [← phaseOfPolicy_eq]
    rcases hp with rfl | rfl <;> rfl
  | stop =>
    obtain ⟨hp, rfl⟩ := phaseStep_stop.mp h
    rcases hp with rfl | rfl <;> rfl

theorem tablePhase_appendingCmds {p q : Phase} {T : Txn} (h : scan p T = some q) :
    tablePhase p (T.map appendingCmd) = some q := by
  induction T generalizing p with
  | nil => exact h
  | cons e T ih =>
    obtain ⟨r, hr, hT⟩ := scan_cons_eq_some.mp h
    exact tablePhase_cons_eq_some.mpr ⟨r, transTable_appendingCmd hr, ih hT⟩

/-- The commands that append the elements of `T`. -/
def buildCmds (T : Txn) : List Instr := T.map fun e => builderInstr (appendingCmd e)

/-- Builder commands that leave a transaction open found one open, and none of them failed: a failure closes it (R112), and
only BEGIN opens one. -/
theorem runCmds_of_open {cs : List BuilderCmd} {s t : State} (hrun : runCmds (cs.map builderInstr) s = .next t)
    (hopen : t.bph ≠ .closed) : s.bph ≠ .closed ∧ (s.code = .ok → t.code = .ok) ∧ t.sticky = s.sticky := by
  induction cs generalizing s with
  | nil =>
    cases hrun
    exact ⟨hopen, id, rfl⟩
  | cons c cs ih =>
    rw [List.map_cons, runCmds_cons (exec_builderInstr c s)] at hrun
    obtain ⟨hmid, hcode, hsticky⟩ := ih hrun
    obtain ⟨r, -, h⟩ | ⟨p, -, -, h⟩ | ⟨p, hp, -, h⟩ := builderStep_cases c s <;> rw [h] at hmid hcode hsticky
    · exact absurd rfl hmid
    · exact absurd rfl hmid
    · exact ⟨fun hclosed => transTable_closed_ne_next (hclosed ▸ hp), fun _ => hcode rfl,
        hsticky.trans (stickyAfter_ok _)⟩

theorem ne_closed_of_scan {p q : Phase} {T : Txn} (hp : p ≠ .closed) (h : scan p T = some q) : q ≠ .closed := by
  induction T generalizing p with
  | nil =>
    cases h
    exact hp
  | cons e T ih =>
    obtain ⟨r, hr, hT⟩ := scan_cons_eq_some.mp h
    exact ih (fun hclosed => phaseStep_ne_closed (hclosed ▸ hr)) hT

/-- BEGIN and the commands of `T` build `T` where R26 admits it and both capacities hold it; nothing fails. -/
theorem beginTxn_builds {s : State} {T : Txn} {q : Phase} (h : BlockInv s) (hscan : scan .empty T = some q)
    (hlength : T.length ≤ s.cfg.txnCap) (hreads : countReads T ≤ s.cfg.rdCap) :
    ∃ t, runCmds (.beginTxn :: buildCmds T) s = .next t ∧ t.bph = q ∧ openTxn t = T ∧ t.code = .ok ∧
      t.sticky = s.sticky ∧ t.busLog = s.busLog := by
  have hbegin : BlockInv (finish .ok (setPhase .empty (discardTxn s))) := h.openEmpty.report (by simp)
  have hmap : (T.map appendingCmd).map (elementOf s.cfg) = T := by simp [Function.comp_def]
  obtain ⟨t, hrun, ht⟩ := runCmds_built hbegin (tablePhase_appendingCmds hscan)
    (hmap.symm ▸ hlength) (hmap.symm ▸ hreads)
  obtain ⟨-, hcode, hsticky⟩ := runCmds_of_open hrun (ht.bph_eq ▸ ne_closed_of_scan (by simp) hscan)
  refine ⟨t, ?_, ht.bph_eq, ht.openTxn_eq.trans hmap, hcode rfl, hsticky.trans (stickyAfter_ok _), ht.busLog_eq⟩
  rw [runCmds_cons rfl, ← hrun, List.map_map]
  rfl

/-! ### A part of it -/

theorem scan_append (p : Phase) (T U : Txn) : scan p (T ++ U) = (scan p T).bind fun q => scan q U := by
  induction T generalizing p with
  | nil => rfl
  | cons e T ih => cases h : phaseStep p e <;> simp [scan, h, ih]

theorem scan_take {p q : Phase} {T : Txn} (h : scan p T = some q) (n : Nat) : ∃ r, scan p (T.take n) = some r := by
  rw [← List.take_append_drop n T, scan_append] at h
  obtain ⟨r, hr, -⟩ := Option.bind_eq_some_iff.mp h
  exact ⟨r, hr⟩

theorem countReads_take_le (T : Txn) (n : Nat) : countReads (T.take n) ≤ countReads T := by
  calc
    countReads (T.take n) ≤ countReads (T.take n) + countReads (T.drop n) := Nat.le_add_right _ _
    _ = countReads T := by rw [← countReads_append, List.take_append_drop]

/-- Settles O24: a well-formed transaction scans to `STOPPED` (`scan_of_txnShape`), so BEGIN and its commands build it, and
likewise the first `n` elements for every `n`. -/
theorem everyWellFormedTransactionIsBuildable : Obligations.EveryWellFormedTransactionIsBuildable := by
  intro s T h hwf
  simp only [txnWf, Bool.and_eq_true, decide_eq_true_eq] at hwf
  obtain ⟨⟨hshape, hlength⟩, hreads⟩ := hwf
  have hscan := scan_of_txnShape hshape
  obtain ⟨t, hrun, hbph, hopen, hcode, hsticky, hlog⟩ := beginTxn_builds h hscan hlength hreads
  refine ⟨buildCmds T, t, fun i hi => ?_, fun n _ => ?_, hrun, hbph, hopen, hcode, hsticky, hlog⟩
  · obtain ⟨e, -, rfl⟩ := List.mem_map.mp hi
    exact ⟨(isBuilder_iff _).mpr (.inr ⟨_, rfl⟩), builderInstr_ne_beginTxn _⟩
  · obtain ⟨r, hr⟩ := scan_take hscan n
    obtain ⟨u, hu, -, -, hok, -⟩ := beginTxn_builds h hr ((List.length_take_le' n T).trans hlength)
      ((countReads_take_le T n).trans hreads)
    rw [buildCmds, List.map_take] at hu
    exact ⟨u, hu, hok⟩

end Sys2Proof.Machine
end

section
/-! Proofs of the family 41_execute: EXECUTE's refusals and its effect for each answer of the transport (R150–R160). -/

namespace Sys2Proof.Machine

/-! ### The answers R153 admits -/

theorem admissible_ok_iff (T : Txn) (d : List Byte) : admissible T (.ok d) = true ↔ d.length = countReads T := by
  simp [admissible]

theorem ackRequired_iff (e : Element) : ackRequired e = true ↔ ∃ b, e = .wr b true := by
  cases e <;> simp [ackRequired]

theorem admissible_nack_iff (T : Txn) (i : Nat) : admissible T (.nack i) = true ↔ ∃ b, T[i]? = some (.wr b true) := by
  cases h : T[i]? with
  | none => simp [admissible, h]
  | some e => simp [admissible, h, ackRequired_iff]

theorem admissible_timeout (T : Txn) : admissible T .timeout = true := rfl

/-- Settles O27: an admissible `Nack(i)` names an element of the transaction, a WR that requires an acknowledge, and the
elements received are the ones up to it. -/
theorem nackedPrefixEndsAtTheWrite : Obligations.NackedPrefixEndsAtTheWrite := by
  rintro T i p hadm rfl
  obtain ⟨b, hb⟩ := (admissible_nack_iff T i).mp hadm
  obtain ⟨hi, -⟩ := List.getElem?_eq_some_iff.mp hb
  exact ⟨hi, List.take_prefix _ _, List.length_take_of_le hi, b, by simp [List.getLast?_take, hb]⟩

/-! ### EXECUTE, case by case (R150) -/

/-- With the transaction finished by STOP, the transport's answer decides the state and the code (R151). -/
theorem exec_execute_of_stopped {s : State} (h : s.bph = .stopped) :
    exec .execute s = .next
      (finish (answerCode (transportAnswer s (openTxn s))) (runWith (transportAnswer s (openTxn s)) s)) := by
  simp only [exec, execExecute, executeTxn, h, runAndFinish, runTxn]

/-- With the transaction finished by STOP and an answer pending that R153 admits, the next state field by field (R151, R157,
R158). -/
theorem exec_execute_of_pending {s : State} {out : Answer} {rest : List Answer} (hstopped : s.bph = .stopped)
    (hpending : s.answers = out :: rest) (hadm : admissible (openTxn s) out = true) :
    exec .execute s = .next
      { s with
        busLog := s.busLog ++ [(openTxn s, out)], answers := rest, draws := s.draws + 1
        bph := .closed, bn := 0, bnr := 0, rdata := slotsAfter s.draws s.bnr s out
        rdCount := countAfter s.bnr out, rdataV := validAfter out
        code := answerCode out, mreason := .none, sticky := stickyAfter (answerCode out) s.sticky } := by
  rw [exec_execute_of_stopped hstopped, transportAnswer_of_pending hpending hadm]
  cases out <;> simp [finish, setStatus, runWith, receive, discardTxn, logCall, slotsAfter, hpending]

theorem refuses_of_executeTxn {s : State} {r : MReason} (h : executeTxn s = malformed r s) : Refuses r .execute s := by
  rw [Refuses, exec, execExecute, h]
  rfl

/-- A transaction begun and not finished by STOP is refused (R150). -/
theorem executeTxn_of_unfinished {s : State} (hclosed : s.bph ≠ .closed) (hempty : s.bph ≠ .empty)
    (hstopped : s.bph ≠ .stopped) : executeTxn s = malformed .missingStop s := by
  unfold executeTxn
  split
  · exact absurd ‹_› hclosed
  · exact absurd ‹_› hempty
  · exact absurd ‹_› hstopped
  · rfl

/-- The slots that `Ok(d)` fills hold `d`, the others what they held (R157). -/
theorem fillSlots_getElem?_of_length_eq {n : Nat} {d old : List Byte} (hlen : d.length = n) {k : Nat}
    (hk : k < old.length) : (fillSlots n d old)[k]? = if k < n then d[k]? else old[k]? := by
  rw [fillSlots_getElem?, List.getElem?_eq_getElem hk]
  by_cases hkn : k < n
  · simp [hkn, hlen]
  · simp [hkn]

/-- Settles O25: each refusal from its phase; each answer by `exec_execute_of_pending`, with the read slots it leaves. -/
theorem executeCommand : Obligations.ExecuteCommand := by
  refine ⟨rfl, fun s => ⟨fun hclosed => ?_, fun hempty => ?_, fun hclosed hempty hstopped => ?_, ?_, ?_, ?_⟩⟩
  · exact refuses_of_executeTxn (by rw [executeTxn, hclosed])
  · exact refuses_of_executeTxn (by rw [executeTxn, hempty])
  · exact refuses_of_executeTxn (executeTxn_of_unfinished hclosed hempty hstopped)
  · intro d rest hstopped hpending hbnr hlen
    have hadm := (admissible_ok_iff (openTxn s) d).mpr (hlen.trans hbnr)
    refine ⟨fillSlots s.bnr d s.rdata, fillSlots_length .., fun k hk => ?_, ?_⟩
    · exact fillSlots_getElem?_of_length_eq hlen (by simpa using hk)
    · rw [exec_execute_of_pending hstopped hpending hadm, answerCode, stickyAfter_ok]
      rfl
  · intro i b rest hstopped hpending hwrite
    have hadm := (admissible_nack_iff (openTxn s) i).mpr ⟨b, hwrite⟩
    exact ⟨freeSlots s.draws s.cfg.rdCap, freeSlots_length .., exec_execute_of_pending hstopped hpending hadm⟩
  · intro rest hstopped hpending
    exact ⟨freeSlots s.draws s.cfg.rdCap, freeSlots_length ..,
      exec_execute_of_pending hstopped hpending (admissible_timeout _)⟩

/-- Settles O26: the answer drawn is admissible whatever is pending; and an admissible answer occurs where it is the pending
one. -/
theorem executeTakesAnyAdmissibleAnswer : Obligations.ExecuteTakesAnyAdmissibleAnswer := by
  intro s hstopped
  refine ⟨⟨_, _, transportAnswer_admissible s _, exec_execute_of_stopped hstopped, rfl, rfl, rfl, rfl⟩, ?_⟩
  intro out hadm
  exact ⟨[out], _, exec_execute_of_pending (s := { s with answers := [out] }) hstopped rfl hadm, rfl, rfl⟩

end Sys2Proof.Machine
end

section
/-! Proofs of the family 42_sequencer, first part: what a sequencer command does for each answer of the transport (R181, R182,
R192, R197, R204, R210). -/

namespace Sys2Proof.Machine

/-! ### A transaction of the sequencer, sent and answered (R182) -/

/-- The state after `SeqTxn(T)` that the transport answers with `out`. -/
def sent (T : Txn) (out : Answer) (s : State) : State := runWith out (loadTxn T s)

section
variable (T : Txn) (out : Answer) (s : State)

theorem seqTxn_eq : seqTxn T s = (sent T (transportAnswer s T) s, answerCode (transportAnswer s T)) := by
  simp only [seqTxn, runTxn, openTxn_loadTxn, sent]
  rfl

@[simp] theorem sent_cfg : (sent T out s).cfg = s.cfg := rfl
@[simp] theorem sent_wf : (sent T out s).wf = s.wf := rfl
@[simp] theorem sent_answers : (sent T out s).answers = s.answers.tail := rfl
@[simp] theorem sent_busLog : (sent T out s).busLog = s.busLog ++ [(T, out)] := by
  simp [sent]

end

/-- An answer is `Ok` or one of the failures. -/
theorem answer_ok_or_failure (out : Answer) : (∃ d, out = .ok d) ∨ answerCode out ≠ .ok := by
  rw [← answerCode_ok_iff]
  exact Decidable.em _

/-- The read slots when `Ok(d)` fits into them: the bytes of `d`, then what was there (R157). -/
theorem fillSlots_of_length_le {d old : List Byte} (h : d.length ≤ old.length) :
    fillSlots d.length d old = d ++ old.drop d.length := by
  induction d generalizing old with
  | nil => simp
  | cons b d ih =>
    cases old with
    | nil => simp at h
    | cons x old => simpa [fillSlots, List.mapIdx_cons] using ih (by simpa using h)

theorem sent_rdata_of_ok {T : Txn} {d : List Byte} {s : State} (hadm : admissible T (.ok d) = true)
    (hlen : d.length ≤ s.rdata.length) : (sent T (.ok d) s).rdata = d ++ s.rdata.drop d.length := by
  rw [← fillSlots_of_length_le hlen, (admissible_ok_iff T d).mp hadm, sent, runWith_loadTxn]
  rfl

/-- A sequencer transaction with no host-built one open, answered by the pending answer: every field that changes. -/
theorem sent_of_pending {T : Txn} {out : Answer} {rest : List Answer} {s : State} (hclosed : s.bph = .closed)
    (hpending : s.answers = out :: rest) :
    sent T out s =
      { s with
        buf := T ++ s.buf.drop T.length, bn := 0, bnr := 0, busLog := s.busLog ++ [(T, out)], answers := rest
        draws := s.draws + 1, rdata := slotsAfter s.draws (countReads T) s out
        rdCount := countAfter (countReads T) out, rdataV := validAfter out } := by
  simp [sent, runWith_loadTxn, hpending, hclosed]

/-! ### Commands with and without a transaction open (R181) -/

theorem isSequencer_iff (i : Instr) :
    isSequencer i = true ↔ i = .verifyIdentity ∨ i = .configure ∨ i = .readAccelX ∨ i = .readTemp := by
  cases i <;> simp [isSequencer]

theorem exec_of_open {i : Instr} {s : State} (hi : isSequencer i = true) (hopen : s.bph ≠ .closed) :
    exec i s = .next (finish .busy s) := by
  obtain rfl | rfl | rfl | rfl := (isSequencer_iff i).mp hi <;>
    simp [exec, execVerifyIdentity, execConfigure, execReadAccelX, execReadTemp, unlessBusy, hopen]

section
variable {s : State} (hclosed : s.bph = .closed)
include hclosed

theorem exec_verifyIdentity_of_closed : exec .verifyIdentity s = .next (verifyIdentity s) := by
  simp [exec, execVerifyIdentity, unlessBusy, hclosed]

theorem exec_configure_of_closed : exec .configure s = .next (configure s) := by
  simp [exec, execConfigure, unlessBusy, hclosed]

theorem exec_readAccelX_of_closed : exec .readAccelX s = .next (readAccelX s) := by
  simp [exec, execReadAccelX, unlessBusy, hclosed]

theorem exec_readTemp_of_closed : exec .readTemp s = .next (readTemp s) := by
  simp [exec, execReadTemp, unlessBusy, hclosed]

end

/-! ### VERIFY_IDENTITY (R192) -/

theorem verifyIdentity_of_ok {s : State} {d : List Byte} (h : transportAnswer s (txnId s.cfg) = .ok d) :
    verifyIdentity s = checkIdentity (sent (txnId s.cfg) (.ok d) s) := by
  simp [verifyIdentity, seqTxn_eq, h, answerCode]

theorem verifyIdentity_of_failure {s : State} {out : Answer} (h : transportAnswer s (txnId s.cfg) = out)
    (hfail : answerCode out ≠ .ok) :
    verifyIdentity s = finish (answerCode out) (setWf .uninitialized (sent (txnId s.cfg) out s)) := by
  simp [verifyIdentity, seqTxn_eq, h, hfail]

/-- The workflow after a successful identity check (R191, R192). -/
def verified (w : Workflow) : Workflow := if w = .uninitialized then .identityVerified else w

theorem checkIdentity_of_eq {s : State} (h : slot 0 s = s.cfg.idExpect) :
    checkIdentity s = finish .ok (setWf (verified s.wf) s) := by
  unfold checkIdentity verified
  rw [if_pos h]
  split <;> rfl

theorem checkIdentity_of_ne {s : State} (h : slot 0 s ≠ s.cfg.idExpect) :
    checkIdentity s = finish .deviceNotPresent (setWf .uninitialized s) := by
  rw [checkIdentity, if_neg h]

theorem admissible_txnId_ok {c : Config} {d : List Byte} (h : admissible (txnId c) (.ok d) = true) : ∃ b, d = [b] :=
  List.length_eq_one_iff.mp ((admissible_ok_iff _ _).mp h)

/-- The byte compared with `ID_EXPECT` is the one the transport returned. -/
theorem slot_zero_sent_txnId {s : State} {b : Byte} (hlen : 1 ≤ s.rdata.length) :
    slot 0 (sent (txnId s.cfg) (.ok [b]) s) = b := by
  rw [slot, sent_rdata_of_ok (d := [b]) rfl hlen]
  rfl

/-! ### CONFIGURE (R197, R200) -/

theorem configure_of_uninitialized {s : State} (h : s.wf = .uninitialized) : configure s = finish .workflowOrder s := by
  rw [configure, if_pos h]

theorem configure_of_admitted {s : State} (h : s.wf ≠ .uninitialized) :
    configure s = finish (writeRegs (cfgList s.cfg) s).2
      (setWf (if (writeRegs (cfgList s.cfg) s).2 = .ok then .configured else .identityVerified)
        (writeRegs (cfgList s.cfg) s).1) := by
  rw [configure, if_neg h]

theorem writeRegs_cons_of_ok {rv : Byte × Byte} {l : List (Byte × Byte)} {s : State} {d : List Byte}
    (h : transportAnswer s (txnCfg s.cfg rv.1 rv.2) = .ok d) :
    writeRegs (rv :: l) s = writeRegs l (sent (txnCfg s.cfg rv.1 rv.2) (.ok d) s) := by
  simp [writeRegs, seqTxn_eq, h, answerCode]

theorem writeRegs_cons_of_failure {rv : Byte × Byte} {l : List (Byte × Byte)} {s : State} {out : Answer}
    (h : transportAnswer s (txnCfg s.cfg rv.1 rv.2) = out) (hfail : answerCode out ≠ .ok) :
    writeRegs (rv :: l) s = (sent (txnCfg s.cfg rv.1 rv.2) out s, answerCode out) := by
  simp [writeRegs, seqTxn_eq, h, hfail]

/-- The log entry of a register write answered `Ok()`. -/
def writeEntry (c : Config) (rv : Byte × Byte) : BusEntry := (txnCfg c rv.1 rv.2, .ok [])

theorem configEntries_eq (c : Config) : configEntries c = (cfgList c).map (writeEntry c) := rfl

/-- What the register writes put on the bus when none fails. -/
theorem writeRegs_busLog_of_ok {l : List (Byte × Byte)} {s : State} (h : (writeRegs l s).2 = .ok) :
    (writeRegs l s).1.busLog = s.busLog ++ l.map (writeEntry s.cfg) := by
  induction l generalizing s with
  | nil => simp [writeRegs]
  | cons rv l ih =>
    obtain ⟨d, hans⟩ | hfail := answer_ok_or_failure (transportAnswer s (txnCfg s.cfg rv.1 rv.2))
    · have hd : d = [] := by
        have hadm := transportAnswer_admissible s (txnCfg s.cfg rv.1 rv.2)
        rw [hans, admissible_ok_iff] at hadm
        exact List.length_eq_zero_iff.mp hadm
      subst hd
      rw [writeRegs_cons_of_ok hans] at h ⊢
      rw [ih h]
      simp [writeEntry]
    · rw [writeRegs_cons_of_failure rfl hfail] at h
      exact absurd h hfail

/-! ### The sample reads (R204, R210) -/

theorem readsAdmitted_iff (w : Workflow) : readsAdmitted w = true ↔ w = .configured ∨ w = .sampling := by
  cases w <;> simp [readsAdmitted]

section
variable {r : Byte} {store drop : State → State} {s : State}

theorem readSample_of_refused (h : ¬ (s.wf = .configured ∨ s.wf = .sampling)) :
    readSample r store drop s = finish .workflowOrder s := by
  rw [readSample, if_neg (mt (readsAdmitted_iff _).mp h)]

theorem readSample_of_ok {d : List Byte} (hwf : s.wf = .configured ∨ s.wf = .sampling)
    (h : transportAnswer s (txnRd2 s.cfg r) = .ok d) :
    readSample r store drop s = finish .ok (setWf .sampling (store (sent (txnRd2 s.cfg r) (.ok d) s))) := by
  rw [readSample, if_pos ((readsAdmitted_iff _).mpr hwf)]
  simp [seqTxn_eq, h, answerCode]

theorem readSample_of_failure {out : Answer} (hwf : s.wf = .configured ∨ s.wf = .sampling)
    (h : transportAnswer s (txnRd2 s.cfg r) = out) (hfail : answerCode out ≠ .ok) :
    readSample r store drop s = finish (answerCode out) (drop (sent (txnRd2 s.cfg r) out s)) := by
  rw [readSample, if_pos ((readsAdmitted_iff _).mpr hwf)]
  simp [seqTxn_eq, h, hfail]

end

theorem admissible_txnRd2_ok {c : Config} {r : Byte} {d : List Byte} (h : admissible (txnRd2 c r) (.ok d) = true) :
    ∃ hi lo, d = [hi, lo] :=
  List.length_eq_two.mp ((admissible_ok_iff _ _).mp h)

/-- The sample is the two bytes the transport returned, the first one high (R215). -/
theorem sample_sent_txnRd2 {s : State} {r hi lo : Byte} (hlen : 2 ≤ s.rdata.length) :
    sample (sent (txnRd2 s.cfg r) (.ok [hi, lo]) s) = be16 hi lo := by
  rw [sample, slot, slot, sent_rdata_of_ok (d := [hi, lo]) rfl hlen]
  rfl

end Sys2Proof.Machine
end

section
/-! Proofs of the family 42_sequencer, second part: the workflow state and the results are backed by the bus log (R191, R206,
R212, R264, R265, R269). -/

namespace Sys2Proof.Machine

/-! ### The four histories, and what keeps them -/

/-- The four histories of `History`, without the block's invariant. -/
structure Backed (s : State) : Prop where
  identity : IdentitySeen s
  config : ConfigSeen s
  accel : AccelSeen s
  temp : TempSeen s

theorem History.backed {s : State} (h : History s) : Backed s := ⟨h.identity, h.config, h.accel, h.temp⟩

/-- `t` has the ROM, the workflow and the results of `s`, and its log goes on from that of `s`. -/
structure KeepsResults (s t : State) : Prop where
  cfg : t.cfg = s.cfg
  log : s.busLog <+: t.busLog
  wf : t.wf = s.wf
  accelV : t.accelV = s.accelV
  accelXRaw : t.accelXRaw = s.accelXRaw
  tempV : t.tempV = s.tempV
  tempRaw : t.tempRaw = s.tempRaw
  tempC : t.tempC = s.tempC

theorem keepsResults_refl (s : State) : KeepsResults s s := ⟨rfl, List.prefix_rfl, rfl, rfl, rfl, rfl, rfl, rfl⟩

theorem KeepsResults.trans {s t u : State} (h : KeepsResults s t) (h' : KeepsResults t u) : KeepsResults s u where
  cfg := h'.cfg.trans h.cfg
  log := h.log.trans h'.log
  wf := h'.wf.trans h.wf
  accelV := h'.accelV.trans h.accelV
  accelXRaw := h'.accelXRaw.trans h.accelXRaw
  tempV := h'.tempV.trans h.tempV
  tempRaw := h'.tempRaw.trans h.tempRaw
  tempC := h'.tempC.trans h.tempC

theorem Backed.keep {s t : State} (h : Backed s) (hkeep : KeepsResults s t) : Backed t where
  identity hwf := by
    rw [hkeep.cfg]
    exact hkeep.log.mem (h.identity (hkeep.wf ▸ hwf))
  config hwf := by
    obtain ⟨before, after, hlog, hid⟩ := h.config (hkeep.wf ▸ hwf)
    obtain ⟨more, hmore⟩ := hkeep.log
    exact ⟨before, after ++ more, by simp [← hmore, hlog, hkeep.cfg], by rwa [hkeep.cfg]⟩
  accel hvalid := by
    obtain ⟨hi, lo, hmem, hraw⟩ := h.accel (hkeep.accelV ▸ hvalid)
    exact ⟨hi, lo, hkeep.cfg ▸ hkeep.log.mem hmem, hkeep.accelXRaw.trans hraw⟩
  temp hvalid := by
    obtain ⟨hi, lo, hmem, hraw, hcelsius⟩ := h.temp (hkeep.tempV ▸ hvalid)
    refine ⟨hi, lo, hkeep.cfg ▸ hkeep.log.mem hmem, hkeep.tempRaw.trans hraw, ?_⟩
    rw [hkeep.tempC, hkeep.tempRaw, hkeep.cfg]
    exact hcelsius

/-! ### The operations that keep them -/

theorem keepsResults_setStatus (c : StatusCode) (r : MReason) (s : State) : KeepsResults s (setStatus c r s) :=
  { keepsResults_refl s with }

theorem keepsResults_runWith (out : Answer) (s : State) : KeepsResults s (runWith out s) :=
  { keepsResults_refl s with log := List.prefix_append .. }

theorem keepsResults_sent (T : Txn) (out : Answer) (s : State) : KeepsResults s (sent T out s) :=
  { keepsResults_refl s with log := by simp }

theorem keepsResults_of_onlyBuilds {s t : State} (h : OnlyBuilds s t) : KeepsResults s t := by
  rw [h]
  exact { keepsResults_refl s with }

theorem keepsResults_executeTxn (s : State) : KeepsResults s (executeTxn s) := by
  unfold executeTxn
  split
  case h_3 => exact (keepsResults_runWith _ s).trans (keepsResults_setStatus _ _ _)
  all_goals exact { keepsResults_refl s with }

theorem keepsResults_writeRegs (l : List (Byte × Byte)) (s : State) : KeepsResults s (writeRegs l s).1 := by
  induction l generalizing s with
  | nil => exact keepsResults_refl s
  | cons rv l ih =>
    obtain ⟨d, hans⟩ | hfail := answer_ok_or_failure (transportAnswer s (txnCfg s.cfg rv.1 rv.2))
    · rw [writeRegs_cons_of_ok hans]
      exact (keepsResults_sent _ _ s).trans (ih _)
    · rw [writeRegs_cons_of_failure rfl hfail]
      exact keepsResults_sent _ _ s

/-- A command that is not the sequencer's keeps the workflow and the results (R29, D30). -/
theorem keepsResults_of_exec {i : Instr} {s t : State} (hi : isSequencer i = false) (h : exec i s = .next t) :
    KeepsResults s t := by
  cases i
  case verifyIdentity | configure | readAccelX | readTemp => exact absurd hi.symm Bool.false_ne_true
  case execute =>
    cases h
    exact keepsResults_executeTxn s
  all_goals exact keepsResults_of_onlyBuilds (builderLeavesTheRestAlone _ s t rfl h).1

/-! ### The writes of the workflow and of the results -/

theorem Backed.finish {s : State} (h : Backed s) (c : StatusCode) : Backed (finish c s) :=
  h.keep (keepsResults_setStatus c .none s)

theorem Backed.uninitialize {s : State} (h : Backed s) : Backed (setWf .uninitialized s) :=
  { h with identity := fun hwf => absurd rfl hwf, config := by simp [ConfigSeen] }

theorem Backed.verify {s : State} (h : Backed s) (hid : identityEntry s.cfg ∈ s.busLog) :
    Backed (setWf (verified s.wf) s) := by
  unfold verified
  split
  · exact { h with identity := fun _ => hid, config := by simp [ConfigSeen] }
  · exact h

theorem Backed.unconfigure {s : State} (h : Backed s) (hwf : s.wf ≠ .uninitialized) : Backed (setWf .identityVerified s) :=
  { h with identity := fun _ => h.identity hwf, config := by simp [ConfigSeen] }

theorem Backed.sampling {s : State} (h : Backed s) (hwf : s.wf = .configured ∨ s.wf = .sampling) :
    Backed (setWf .sampling s) :=
  { h with
    identity := fun _ => h.identity (by rcases hwf with hwf | hwf <;> simp [hwf])
    config := fun _ => h.config hwf }

theorem Backed.dropAccel {s : State} (h : Backed s) : Backed (dropAccel s) :=
  { h with accel := fun hvalid => Bool.noConfusion hvalid }

theorem Backed.dropTemp {s : State} (h : Backed s) : Backed (dropTemp s) :=
  { h with temp := fun hvalid => Bool.noConfusion hvalid }

/-! ### The sequencer commands keep the histories -/

section
variable {s : State} (h : Backed s) (hlen : 2 ≤ s.rdata.length)
include h

theorem Backed.unlessBusy {f : State → State} (hf : Backed (f s)) : Backed (unlessBusy f s) := by
  obtain ⟨-, hfree⟩ | ⟨-, hbusy⟩ := unlessBusy_cases f s
  · rwa [hfree]
  · rw [hbusy]
    exact h.finish _

/-- Without five successful writes the block falls back to `IdentityVerified`; with them they follow the identity check that
the workflow state already required. -/
theorem Backed.configure : Backed (configure s) := by
  by_cases hwf : s.wf = .uninitialized
  · rw [configure_of_uninitialized hwf]
    exact h.finish _
  · have hkeep := keepsResults_writeRegs (cfgList s.cfg) s
    have hwrites := h.keep hkeep
    rw [configure_of_admitted hwf]
    refine Backed.finish ?_ _
    split
    · next hok =>
      have hlog := writeRegs_busLog_of_ok hok
      exact
        { hwrites with
          identity := fun _ => hwrites.identity (hkeep.wf ▸ hwf)
          config := fun _ => ⟨s.busLog, [], by simpa [hkeep.cfg, configEntries_eq] using hlog, by
            simpa [hkeep.cfg] using h.identity hwf⟩ }
    · exact hwrites.unconfigure (hkeep.wf ▸ hwf)

/-- A sample read, given that its writes of the result keep the histories. -/
theorem Backed.readSample {r : Byte} {store drop : State → State} (hstorewf : ∀ u, (store u).wf = u.wf)
    (hstore : ∀ hi lo, Backed (store (sent (txnRd2 s.cfg r) (.ok [hi, lo]) s)))
    (hdrop : ∀ u, Backed u → Backed (drop u)) : Backed (readSample r store drop s) := by
  by_cases hwf : s.wf = .configured ∨ s.wf = .sampling
  · obtain ⟨d, hans⟩ | hfail := answer_ok_or_failure (transportAnswer s (txnRd2 s.cfg r))
    · obtain ⟨hi, lo, rfl⟩ := admissible_txnRd2_ok (hans ▸ transportAnswer_admissible s (txnRd2 s.cfg r))
      rw [readSample_of_ok hwf hans]
      exact ((hstore hi lo).sampling (by simpa [hstorewf] using hwf)).finish _
    · rw [readSample_of_failure hwf rfl hfail]
      exact (hdrop _ (h.keep (keepsResults_sent _ _ s))).finish _
  · rw [readSample_of_refused hwf]
    exact h.finish _

include hlen

theorem Backed.verifyIdentity : Backed (verifyIdentity s) := by
  have hsent := fun out => h.keep (keepsResults_sent (txnId s.cfg) out s)
  obtain ⟨d, hans⟩ | hfail := answer_ok_or_failure (transportAnswer s (txnId s.cfg))
  · obtain ⟨b, rfl⟩ := admissible_txnId_ok (hans ▸ transportAnswer_admissible s (txnId s.cfg))
    have hslot := slot_zero_sent_txnId (b := b) (Nat.le_of_succ_le hlen)
    rw [verifyIdentity_of_ok hans]
    by_cases hb : b = s.cfg.idExpect
    · rw [checkIdentity_of_eq (hslot.trans hb)]
      exact ((hsent _).verify (by simp [identityEntry, hb])).finish _
    · rw [checkIdentity_of_ne (hslot.symm ▸ hb)]
      exact (hsent _).uninitialize.finish _
  · rw [verifyIdentity_of_failure rfl hfail]
    exact (hsent _).uninitialize.finish _

theorem Backed.readAccelX : Backed (readAccelX s) :=
  h.readSample storeAccel_wf (fun hi lo =>
    { h.keep (keepsResults_sent (txnRd2 s.cfg s.cfg.regAccelXoutH) (.ok [hi, lo]) s) with
      accel := fun _ => ⟨hi, lo, by simp, sample_sent_txnRd2 hlen⟩ }) fun _ => Backed.dropAccel

theorem Backed.readTemp : Backed (readTemp s) :=
  h.readSample storeTemp_wf (fun hi lo =>
    { h.keep (keepsResults_sent (txnRd2 s.cfg s.cfg.regTempOutH) (.ok [hi, lo]) s) with
      temp := fun _ => ⟨hi, lo, by simp, sample_sent_txnRd2 hlen, rfl⟩ }) fun _ => Backed.dropTemp

theorem Backed.exec {i : Instr} {t : State} (hexec : exec i s = .next t) : Backed t := by
  by_cases hi : isSequencer i = true
  · obtain rfl | rfl | rfl | rfl := (isSequencer_iff i).mp hi <;> cases hexec
    · exact h.unlessBusy (h.verifyIdentity hlen)
    · exact h.unlessBusy h.configure
    · exact h.unlessBusy (h.readAccelX hlen)
    · exact h.unlessBusy (h.readTemp hlen)
  · exact h.keep (keepsResults_of_exec (Bool.eq_false_iff.mpr hi) hexec)

end

/-! ### The obligation -/

theorem backed_blockReset (s : State) : Backed (blockReset s) where
  identity hwf := absurd rfl hwf
  config := by simp [ConfigSeen, blockReset, State.reset]
  accel hvalid := Bool.noConfusion hvalid
  temp hvalid := Bool.noConfusion hvalid

/-- Settles O44: the invariant by `stepKeepsInv`; the histories command by command (`Backed.exec`), where a successful check
or sample read is decided by the bytes the log has just gained. -/
theorem stepKeepsHistory : Obligations.StepKeepsHistory := by
  intro s t hhist hstep
  have hinv := stepKeepsInv s t hhist.inv hstep
  have hbacked : Backed t := by
    have hpop : Backed (popInput s) := { hhist.backed with }
    have hlen : 2 ≤ s.rdata.length := hhist.inv.rdataLength ▸ hhist.inv.caps.2
    obtain ⟨-, h⟩ | ⟨w, i, rest, -, -, h⟩ | ⟨w, why, rest, -, -, h⟩ | ⟨n, rest, -, h⟩ | ⟨rest, -, h⟩ := step_cases s <;>
      rw [h] at hstep
    · cases hstep
      exact hhist.backed
    · exact hpop.exec hlen hstep
    · cases hstep
      exact hpop.finish _
    · cases hstep
      exact { hpop with }
    · cases hstep
      exact backed_blockReset _
  exact ⟨hinv, hbacked.identity, hbacked.config, hbacked.accel, hbacked.temp⟩

end Sys2Proof.Machine
end

section
/-! Proofs of the family 42_sequencer, third part: the sequencer commands one by one, with the answers they use up pending
(R181, R189, R191–R212). -/

namespace Sys2Proof.Machine

/-! ### Refusals (R181, R191) -/

/-- Settles O28: the Busy check comes first in every sequencer command. -/
theorem sequencerBusy : Obligations.SequencerBusy := fun _ _ hi hopen => exec_of_open hi hopen

theorem not_readsAdmitted_iff (w : Workflow) :
    ¬ (w = .configured ∨ w = .sampling) ↔ w = .uninitialized ∨ w = .identityVerified := by
  cases w <;> simp

/-- Settles O29: each command's refusal, past the Busy check. -/
theorem workflowOrderRefusals : Obligations.WorkflowOrderRefusals := by
  rintro i s hclosed (⟨rfl, hwf⟩ | ⟨rfl | rfl, hwf⟩)
  · rw [exec_configure_of_closed hclosed, configure_of_uninitialized hwf]
    rfl
  · rw [exec_readAccelX_of_closed hclosed, readAccelX, readSample_of_refused ((not_readsAdmitted_iff _).mpr hwf)]
    rfl
  · rw [exec_readTemp_of_closed hclosed, readTemp, readSample_of_refused ((not_readsAdmitted_iff _).mpr hwf)]
    rfl

/-! ### Reports (R22, R25) -/

theorem finish_ok (s : State) : finish .ok s = { s with code := .ok, mreason := .none } := by
  simp [setStatus, stickyAfter_ok]

/-- A failure other than `Timeout` is a `Nack`, which STICKY keeps in bit 3 (R25, R160). -/
theorem finish_failure {out : Answer} (hfail : answerCode out ≠ .ok) (s : State) :
    finish (answerCode out) s =
      { s with
        code := answerCode out, mreason := .none, sticky := s.sticky ||| (if out = .timeout then 0x04 else 0x08) } := by
  cases out with
  | ok d => exact absurd rfl hfail
  | nack i => rfl
  | timeout => rfl

/-! ### VERIFY_IDENTITY -/

section
variable {s : State} {rest : List Answer} (hclosed : s.bph = .closed)
include hclosed

/-- One byte returned: it is compared and stored, whatever it is (R192). -/
theorem exec_verifyIdentity_of_byte (hlen : 1 ≤ s.rdata.length) {b : Byte} (hpending : s.answers = .ok [b] :: rest) :
    ∃ buf, exec .verifyIdentity s = .next (finish (if b = s.cfg.idExpect then .ok else .deviceNotPresent)
      { s with
        buf := buf, bn := 0, bnr := 0, busLog := s.busLog ++ [(txnId s.cfg, .ok [b])], answers := rest
        draws := s.draws + 1, rdata := b :: s.rdata.tail, rdCount := 1, rdataV := true
        wf := if b = s.cfg.idExpect then verified s.wf else .uninitialized }) := by
  have hans : transportAnswer s (txnId s.cfg) = .ok [b] := transportAnswer_of_pending hpending rfl
  have hslot := slot_zero_sent_txnId (b := b) hlen
  have hsent := sent_of_pending (T := txnId s.cfg) hclosed hpending
  have hrdata : slotsAfter s.draws (countReads (txnId s.cfg)) s (.ok [b]) = b :: s.rdata.tail := by
    rw [← List.drop_one]
    exact fillSlots_of_length_le (d := [b]) hlen
  rw [hrdata] at hsent
  refine ⟨txnId s.cfg ++ s.buf.drop 7, ?_⟩
  rw [exec_verifyIdentity_of_closed hclosed, verifyIdentity_of_ok hans]
  by_cases hb : b = s.cfg.idExpect
  · rw [checkIdentity_of_eq (hslot.trans hb), hsent, if_pos hb, if_pos hb]
    rfl
  · rw [checkIdentity_of_ne (hslot.symm ▸ hb), hsent, if_neg hb, if_neg hb]
    rfl

theorem exec_verifyIdentity_of_failure {out : Answer} (hpending : s.answers = out :: rest)
    (hadm : admissible (txnId s.cfg) out = true) (hfail : answerCode out ≠ .ok) :
    ∃ buf, ∃ bytes : List Byte, bytes.length = s.cfg.rdCap ∧ exec .verifyIdentity s = .next (finish (answerCode out)
      { s with
        buf := buf, bn := 0, bnr := 0, busLog := s.busLog ++ [(txnId s.cfg, out)], answers := rest
        draws := s.draws + 1, rdata := bytes, rdCount := 0, rdataV := false, wf := .uninitialized }) := by
  refine ⟨txnId s.cfg ++ s.buf.drop 7, freeSlots s.draws s.cfg.rdCap, freeSlots_length .., ?_⟩
  rw [exec_verifyIdentity_of_closed hclosed, verifyIdentity_of_failure (transportAnswer_of_pending hpending hadm) hfail,
    sent_of_pending hclosed hpending]
  cases out with
  | ok d => exact absurd rfl hfail
  | nack i => rfl
  | timeout => rfl

end

/-- Settles O30: the byte returned decides between success and `DeviceNotPresent`; the writes of `T_ID` are elements 1, 2
and 4. -/
theorem verifyIdentityCommand : Obligations.VerifyIdentityCommand := by
  refine ⟨rfl, fun s hclosed hlen => ⟨fun rest hpending => ?_, fun b rest hb hpending => ?_,
    fun i rest hi hpending => ?_, fun rest hpending => ?_⟩⟩
  · obtain ⟨buf, h⟩ := exec_verifyIdentity_of_byte hclosed hlen hpending
    exact ⟨buf, by rw [h, if_pos rfl, if_pos rfl, finish_ok]; rfl⟩
  · obtain ⟨buf, h⟩ := exec_verifyIdentity_of_byte hclosed hlen hpending
    exact ⟨buf, by rw [h, if_neg hb, if_neg hb]; rfl⟩
  · have hadm : admissible (txnId s.cfg) (.nack i) = true := by rcases hi with rfl | rfl | rfl <;> rfl
    exact exec_verifyIdentity_of_failure hclosed hpending hadm (by simp [answerCode])
  · exact exec_verifyIdentity_of_failure hclosed hpending rfl (by simp [answerCode])

theorem answerCode_ne_deviceNotPresent (out : Answer) : answerCode out ≠ .deviceNotPresent := by
  cases out <;> simp [answerCode]

/-- Settles O31: a failure of the transport is neither code and no `Ok` entry; a byte returned is compared as it stands in the
log entry. -/
theorem identityIffExpectedByte : Obligations.IdentityIffExpectedByte := by
  intro s t hclosed hlen hexec
  rw [exec_verifyIdentity_of_closed hclosed] at hexec
  cases hexec
  obtain ⟨d, hans⟩ | hfail := answer_ok_or_failure (transportAnswer s (txnId s.cfg))
  · obtain ⟨b, rfl⟩ := admissible_txnId_ok (hans ▸ transportAnswer_admissible s (txnId s.cfg))
    have hslot := slot_zero_sent_txnId (b := b) hlen
    rw [verifyIdentity_of_ok hans]
    by_cases hb : b = s.cfg.idExpect
    · rw [checkIdentity_of_eq (hslot.trans hb)]
      simp [identityEntry, hb]
    · rw [checkIdentity_of_ne (hslot.symm ▸ hb)]
      simp [identityEntry, hb]
  · rw [verifyIdentity_of_failure rfl hfail]
    have hne : ∀ d, transportAnswer s (txnId s.cfg) ≠ .ok d := fun d h => hfail (h ▸ rfl)
    simp [identityEntry, hfail, hne, answerCode_ne_deviceNotPresent]

/-! ### CONFIGURE -/

/-- The state once the writes of `done`, each answered `Ok()`, and then that of `rv`, answered `out`, are on the bus. -/
def afterWrites (done : List (Byte × Byte)) (rv : Byte × Byte) (out : Answer) (rest : List Answer) (buf : List Element)
    (s : State) : State :=
  { s with
    buf := buf, bn := 0, bnr := 0, answers := rest, draws := s.draws + (done.length + 1)
    rdata := slotsAfter (s.draws + done.length) 0 s out, rdCount := countAfter 0 out, rdataV := validAfter out
    busLog := s.busLog ++ done.map (writeEntry s.cfg) ++ [(txnCfg s.cfg rv.1 rv.2, out)] }

/-- A write answered `Ok()` leaves only its log entry and its draw: it counts among the writes done. -/
theorem afterWrites_sent {done : List (Byte × Byte)} {rv r : Byte × Byte} {out : Answer} {rest pending : List Answer}
    {buf : List Element} {s : State} (hclosed : s.bph = .closed) (hpending : s.answers = .ok [] :: pending) :
    afterWrites done rv out rest buf (sent (txnCfg s.cfg r.1 r.2) (.ok []) s) =
      afterWrites (r :: done) rv out rest buf s := by
  have hdraws : ∀ n, s.draws + 1 + n = s.draws + (n + 1) := by omega
  rw [sent_of_pending hclosed hpending]
  cases out <;>
    simp [afterWrites, writeEntry, hdraws, slotsAfter, countReads, txnCfg]

/-- The writes of `done` answered `Ok()`, then that of `rv` answered `out`: a failure ends the list, an `Ok` lets the writes of
`more` follow (R189, R197). -/
theorem writeRegs_of_pending {done more : List (Byte × Byte)} {rv : Byte × Byte} {out : Answer} {rest : List Answer}
    {s : State} (hclosed : s.bph = .closed)
    (hpending : s.answers = List.replicate done.length (.ok []) ++ out :: rest)
    (hadm : admissible (txnCfg s.cfg rv.1 rv.2) out = true) :
    ∃ buf, writeRegs (done ++ rv :: more) s =
      if answerCode out = .ok then writeRegs more (afterWrites done rv out rest buf s)
      else (afterWrites done rv out rest buf s, answerCode out) := by
  induction done generalizing s with
  | nil =>
    have hans := transportAnswer_of_pending hpending hadm
    have hsent := sent_of_pending (T := txnCfg s.cfg rv.1 rv.2) hclosed hpending
    refine ⟨txnCfg s.cfg rv.1 rv.2 ++ s.buf.drop 5, ?_⟩
    rw [List.nil_append, writeRegs, seqTxn_eq, hans, hsent]
    simp [afterWrites, txnCfg, countReads]
  | cons r done ih =>
    have hfirst : s.answers = .ok [] :: (List.replicate done.length (.ok []) ++ out :: rest) := hpending
    have hans : transportAnswer s (txnCfg s.cfg r.1 r.2) = .ok [] := transportAnswer_of_pending hfirst rfl
    obtain ⟨buf, h⟩ := ih (s := sent (txnCfg s.cfg r.1 r.2) (.ok []) s) rfl (by simp [hfirst]) hadm
    refine ⟨buf, ?_⟩
    rw [List.cons_append, writeRegs_cons_of_ok hans, h, afterWrites_sent hclosed hfirst]

/-- Settles O32: four writes done and the fifth answered `Ok()` as well, with none to follow. -/
theorem configureWritesAllFive : Obligations.ConfigureWritesAllFive := by
  refine ⟨rfl, fun s rest hclosed hwf hpending => ?_⟩
  obtain ⟨buf, hwrites⟩ := writeRegs_of_pending (done := (cfgList s.cfg).take 4) (more := [])
    (rv := (s.cfg.regAccelConfig, s.cfg.cfgAccelVal)) hclosed hpending rfl
  have hall : writeRegs (cfgList s.cfg) s = (afterWrites ((cfgList s.cfg).take 4) _ (.ok []) rest buf s, .ok) := hwrites
  refine ⟨buf, ?_⟩
  rw [exec_configure_of_closed hclosed, configure_of_admitted hwf, hall, finish_ok]
  simp only [afterWrites, slotsAfter, fillSlots_zero, List.append_assoc]
  rfl

/-- Settles O33: the `j` writes before the failed one are done, and the list ends with it (`writeRegs_of_pending`). -/
theorem configureStopsAtFirstFailure : Obligations.ConfigureStopsAtFirstFailure := by
  intro s j bad rest hclosed hwf hj hbad hpending
  have hfail : answerCode bad ≠ .ok := by rcases hbad with rfl | rfl | rfl | rfl <;> simp [answerCode]
  have hj' : j < (cfgList s.cfg).length := hj
  have htake : ((cfgList s.cfg).take j).length = j := List.length_take_of_le (Nat.le_of_lt hj')
  obtain ⟨buf, hwrites⟩ := writeRegs_of_pending (done := (cfgList s.cfg).take j) (rv := (cfgList s.cfg)[j])
    (more := (cfgList s.cfg).drop (j + 1)) (out := bad) (rest := rest) hclosed (by rwa [htake])
    (by rcases hbad with rfl | rfl | rfl | rfl <;> rfl)
  rw [List.getElem_cons_drop, List.take_append_drop, if_neg hfail] at hwrites
  refine ⟨buf, (cfgList s.cfg)[j], freeSlots (s.draws + j) s.cfg.rdCap, freeSlots_length .., List.getElem?_eq_getElem hj', ?_⟩
  rw [exec_configure_of_closed hclosed, configure_of_admitted hwf, hwrites, finish_failure hfail]
  simp only [setWf, afterWrites, if_neg hfail, htake, configEntries_eq, List.map_take]
  rcases hbad with rfl | rfl | rfl | rfl <;> rfl

/-! ### The sample of two bytes (R215, R217) -/

theorem be16_toNat (hi lo : Byte) : (be16 hi lo).toNat = hi.toNat * 256 + lo.toNat := by
  have hhi := hi.isLt
  have hlo := lo.isLt
  have hshift : hi.toNat <<< 8 % 2 ^ 16 = hi.toNat <<< 8 := Nat.mod_eq_of_lt (by rw [Nat.shiftLeft_eq]; omega)
  rw [be16, BitVec.toNat_or, BitVec.toNat_shiftLeft, BitVec.toNat_setWidth_of_le (by decide),
    BitVec.toNat_setWidth_of_le (by decide), hshift, ← Nat.shiftLeft_add_eq_or_of_lt hlo, Nat.shiftLeft_eq]

theorem be16_eq (hi lo : Byte) : be16 hi lo = BitVec.ofNat 16 (hi.toNat * 256 + lo.toNat) := by
  rw [← be16_toNat, BitVec.ofNat_toNat, BitVec.setWidth_eq]

/-- The two bytes of a pattern assemble to it. -/
theorem be16_extractLsb' (v : BitVec 16) : be16 (v.extractLsb' 8 8) (v.extractLsb' 0 8) = v := by
  apply BitVec.eq_of_toNat_eq
  rw [be16_toNat, BitVec.extractLsb'_toNat, BitVec.extractLsb'_toNat, Nat.shiftRight_eq_div_pow]
  omega

/-- Settles O38: the pattern as a number (`be16_toNat`), read as two's complement. -/
theorem sampleAssembly : Obligations.SampleAssembly := by
  refine ⟨fun hi lo => ?_, fun x hlo hhi => ?_⟩
  · rw [BitVec.toInt_eq_toNat_cond, be16_toNat]
    split <;> split <;> omega
  · rw [be16_extractLsb', BitVec.toInt_ofInt, Int.bmod_eq_of_le] <;> omega

/-! ### The sample reads -/

section
variable {r : Byte} {store drop : State → State} {s : State} {rest : List Answer} (hclosed : s.bph = .closed)
  (hwf : s.wf = .configured ∨ s.wf = .sampling)
include hclosed hwf

theorem readSample_of_bytes (hlen : 2 ≤ s.rdata.length) {hi lo : Byte} (hpending : s.answers = .ok [hi, lo] :: rest) :
    ∃ buf, readSample r store drop s = finish .ok (setWf .sampling (store
      { s with
        buf := buf, bn := 0, bnr := 0, busLog := s.busLog ++ [(txnRd2 s.cfg r, .ok [hi, lo])], answers := rest
        draws := s.draws + 1, rdata := hi :: lo :: s.rdata.drop 2, rdCount := 2, rdataV := true })) := by
  have hans : transportAnswer s (txnRd2 s.cfg r) = .ok [hi, lo] := transportAnswer_of_pending hpending rfl
  have hrdata : slotsAfter s.draws (countReads (txnRd2 s.cfg r)) s (.ok [hi, lo]) = hi :: lo :: s.rdata.drop 2 :=
    fillSlots_of_length_le (d := [hi, lo]) hlen
  refine ⟨txnRd2 s.cfg r ++ s.buf.drop 8, ?_⟩
  rw [readSample_of_ok hwf hans, sent_of_pending hclosed hpending, hrdata]
  rfl

theorem readSample_of_failed {out : Answer} (hpending : s.answers = out :: rest)
    (hadm : admissible (txnRd2 s.cfg r) out = true) (hfail : answerCode out ≠ .ok) :
    ∃ buf, ∃ bytes : List Byte, bytes.length = s.cfg.rdCap ∧
      readSample r store drop s = finish (answerCode out) (drop
        { s with
          buf := buf, bn := 0, bnr := 0, busLog := s.busLog ++ [(txnRd2 s.cfg r, out)], answers := rest
          draws := s.draws + 1, rdata := bytes, rdCount := 0, rdataV := false }) := by
  refine ⟨txnRd2 s.cfg r ++ s.buf.drop 8, freeSlots s.draws s.cfg.rdCap, freeSlots_length .., ?_⟩
  rw [readSample_of_failure hwf (transportAnswer_of_pending hpending hadm) hfail, sent_of_pending hclosed hpending]
  cases out with
  | ok d => exact absurd rfl hfail
  | nack i => rfl
  | timeout => rfl

end

/-- The failures R153 admits of a sample read: `Timeout`, and `Nack` of each of its three writes. -/
theorem failure_of_txnRd2 (c : Config) (r : Byte) {out : Answer}
    (h : out = .timeout ∨ out = .nack 1 ∨ out = .nack 2 ∨ out = .nack 4) :
    admissible (txnRd2 c r) out = true ∧ answerCode out ≠ .ok := by
  rcases h with rfl | rfl | rfl | rfl <;> exact ⟨rfl, by simp [answerCode]⟩

/-- Settles O34: a sample read that stores into or drops `ACCEL_X_RAW`. -/
theorem readAccelCommand : Obligations.ReadAccelCommand := by
  refine ⟨rfl, fun s hclosed hwf hlen => ⟨fun hi lo rest hpending => ?_, fun bad rest hbad hpending => ?_⟩⟩
  · obtain ⟨buf, h⟩ := readSample_of_bytes hclosed hwf hlen hpending
    refine ⟨buf, ?_⟩
    rw [exec_readAccelX_of_closed hclosed, readAccelX, h, finish_ok, ← be16_eq]
    rfl
  · obtain ⟨hadm, hfail⟩ := failure_of_txnRd2 s.cfg s.cfg.regAccelXoutH hbad
    obtain ⟨buf, bytes, hbytes, h⟩ := readSample_of_failed hclosed hwf hpending hadm hfail
    refine ⟨buf, bytes, hbytes, ?_⟩
    rw [exec_readAccelX_of_closed hclosed, readAccelX, h, finish_failure hfail]
    rfl

/-- R216's formula on the literals of the configuration; binary64 is the only `TEMP_FMT`. -/
theorem celsius_eq (c : Config) (raw : BitVec 16) :
    celsius c raw = flAdd (flQuot raw.toInt c.tempDivisor) c.tempOffset := by
  unfold celsius
  split
  rfl

/-- Settles O35: a sample read that stores into or drops `TEMP_RAW` and `TEMP_C`. -/
theorem readTempCommand : Obligations.ReadTempCommand := by
  refine ⟨rfl, fun s hclosed hwf hlen => ⟨fun hi lo rest hpending => ?_, fun bad rest hbad hpending => ?_⟩⟩
  · obtain ⟨buf, h⟩ := readSample_of_bytes hclosed hwf hlen hpending
    refine ⟨buf, ?_⟩
    rw [exec_readTemp_of_closed hclosed, readTemp, h, finish_ok, ← be16_eq, ← celsius_eq]
    rfl
  · obtain ⟨hadm, hfail⟩ := failure_of_txnRd2 s.cfg s.cfg.regTempOutH hbad
    obtain ⟨buf, bytes, hbytes, h⟩ := readSample_of_failed hclosed hwf hpending hadm hfail
    refine ⟨buf, bytes, hbytes, ?_⟩
    rw [exec_readTemp_of_closed hclosed, readTemp, h, finish_failure hfail]
    rfl

end Sys2Proof.Machine
end

section
/-! Proofs of the family 42_sequencer, fourth part: the writes of the workflow state (R191) and the sequencer's transactions
(R187, R188). -/

namespace Sys2Proof.Machine

/-! ### The workflow state after each command (R191) -/

/-- The code of a failed transaction (R160). -/
theorem answerCode_of_failure {out : Answer} (hfail : answerCode out ≠ .ok) :
    answerCode out = .busNack ∨ answerCode out = .busTimeout :=
  (answerCode_cases out).resolve_left hfail

theorem verifyIdentity_wf (s : State) :
    ((verifyIdentity s).code = .ok ∧ (verifyIdentity s).wf = verified s.wf) ∨
    (((verifyIdentity s).code = .busNack ∨ (verifyIdentity s).code = .busTimeout ∨
      (verifyIdentity s).code = .deviceNotPresent) ∧ (verifyIdentity s).wf = .uninitialized) := by
  obtain ⟨d, hans⟩ | hfail := answer_ok_or_failure (transportAnswer s (txnId s.cfg))
  · rw [verifyIdentity_of_ok hans]
    by_cases hslot : slot 0 (sent (txnId s.cfg) (.ok d) s) = (sent (txnId s.cfg) (.ok d) s).cfg.idExpect
    · rw [checkIdentity_of_eq hslot]
      exact .inl ⟨rfl, rfl⟩
    · rw [checkIdentity_of_ne hslot]
      exact .inr ⟨.inr (.inr rfl), rfl⟩
  · rw [verifyIdentity_of_failure rfl hfail]
    exact .inr ⟨(answerCode_of_failure hfail).imp_right .inl, rfl⟩

theorem configure_wf (s : State) :
    (s.wf = .uninitialized ∧ (configure s).code = .workflowOrder ∧ (configure s).wf = s.wf) ∨
    (s.wf ≠ .uninitialized ∧ (configure s).code = .ok ∧ (configure s).wf = .configured) ∨
    (s.wf ≠ .uninitialized ∧ ((configure s).code = .busNack ∨ (configure s).code = .busTimeout) ∧
      (configure s).wf = .identityVerified) := by
  by_cases hwf : s.wf = .uninitialized
  · rw [configure_of_uninitialized hwf]
    exact .inl ⟨hwf, rfl, rfl⟩
  · rw [configure_of_admitted hwf]
    obtain hok | hfail := writeRegs_code (cfgList s.cfg) s
    · simp [hwf, hok]
    · have hne : (writeRegs (cfgList s.cfg) s).2 ≠ .ok := by rcases hfail with h | h <;> simp [h]
      simp [hwf, hne, hfail]

/-- The row of R191 for a sample read from `s` to `t`: refused, successful, or failed on the bus. -/
def ReadTransition (s t : State) : Prop :=
  ((s.wf = .uninitialized ∨ s.wf = .identityVerified) ∧ t.code = .workflowOrder ∧ t.wf = s.wf) ∨
  (¬ (s.wf = .uninitialized ∨ s.wf = .identityVerified) ∧ t.code = .ok ∧ t.wf = .sampling) ∨
  (¬ (s.wf = .uninitialized ∨ s.wf = .identityVerified) ∧ (t.code = .busNack ∨ t.code = .busTimeout) ∧ t.wf = s.wf)

theorem readSample_wf (r : Byte) (store : State → State) {drop : State → State} (hdrop : ∀ u, (drop u).wf = u.wf)
    (s : State) : ReadTransition s (readSample r store drop s) := by
  unfold ReadTransition
  rw [← not_readsAdmitted_iff, not_not]
  by_cases hwf : s.wf = .configured ∨ s.wf = .sampling
  · obtain ⟨d, hans⟩ | hfail := answer_ok_or_failure (transportAnswer s (txnRd2 s.cfg r))
    · rw [readSample_of_ok hwf hans]
      exact .inr (.inl ⟨hwf, rfl, rfl⟩)
    · rw [readSample_of_failure hwf rfl hfail]
      exact .inr (.inr ⟨hwf, answerCode_of_failure hfail, hdrop _⟩)
  · rw [readSample_of_refused hwf]
    exact .inl ⟨hwf, rfl, rfl⟩

theorem read_wf {i : Instr} {s t : State} (hclosed : s.bph = .closed) (hread : i = .readAccelX ∨ i = .readTemp)
    (hexec : exec i s = .next t) : ReadTransition s t := by
  obtain rfl | rfl := hread
  · rw [exec_readAccelX_of_closed hclosed] at hexec
    cases hexec
    exact readSample_wf _ storeAccel dropAccel_wf s
  · rw [exec_readTemp_of_closed hclosed] at hexec
    cases hexec
    exact readSample_wf _ storeTemp dropTemp_wf s

/-- Settles O48: the rows of R191 are `verifyIdentity_wf`, `configure_wf` and `read_wf`; Busy writes no workflow state,
and no command outside the sequencer does. -/
theorem workflowTransitions : Obligations.WorkflowTransitions := by
  intro i s t hexec
  by_cases hi : isSequencer i = true
  · by_cases hclosed : s.bph = .closed
    · obtain rfl | rfl | hread := (isSequencer_iff i).mp hi
      · rw [exec_verifyIdentity_of_closed hclosed] at hexec
        cases hexec
        obtain ⟨hcode, hwf⟩ | ⟨hcode | hcode | hcode, hwf⟩ := verifyIdentity_wf s <;>
          simp [isSequencer, hcode, hwf, verified]
      · rw [exec_configure_of_closed hclosed] at hexec
        cases hexec
        obtain ⟨hadm, hcode, hwf⟩ | ⟨hadm, hcode, hwf⟩ | ⟨hadm, hcode | hcode, hwf⟩ := configure_wf s <;>
          simp [isSequencer, hcode, hwf, hadm]
      · obtain ⟨hverify, hconfigure⟩ : i ≠ .verifyIdentity ∧ i ≠ .configure := by rcases hread with rfl | rfl <;> simp
        obtain ⟨hadm, hcode, hwf⟩ | ⟨hadm, hcode, hwf⟩ | ⟨hadm, hcode | hcode, hwf⟩ := read_wf hclosed hread hexec <;>
          simp [hi, hread, hverify, hconfigure, hcode, hwf, hadm]
    · rw [exec_of_open hi hclosed] at hexec
      cases hexec
      simp [hi, hclosed]
  · have hwf : t.wf = s.wf := (keepsResults_of_exec (Bool.eq_false_iff.mpr hi) hexec).wf
    have hnone := mt (isSequencer_iff i).mpr hi
    simp only [not_or] at hnone
    obtain ⟨hverify, hconfigure, haccel, htemp⟩ := hnone
    simp [hwf, hverify, hconfigure, haccel, htemp]

/-! ### The sequencer's transactions (R187, R188) -/

theorem IsTemplate.txnWf {c : Config} {T : Txn} (h : IsTemplate c T) (hc : c.wf = true) : txnWf c T = true := by
  obtain ⟨-, hcaps, -⟩ := (config_wf_iff c).mp hc
  obtain ⟨htxnCap, -, hrdCap, -⟩ := (capsWf_iff c).mp hcaps
  simp [Sys2Proof.txnWf, txnShape_of_scan h.scan_eq, h.length_le.trans htxnCap, h.countReads_le.trans hrdCap]

/-- Settles O36: each template scans to `STOPPED` and fits R8's smallest capacities; only EXECUTE and the builder commands
report `Malformed` (`codesOfEachCommand`). -/
theorem templatesAreWellFormed : Obligations.TemplatesAreWellFormed := by
  refine ⟨fun c hc => ⟨IsTemplate.id.txnWf hc, fun r v => (IsTemplate.cfg r v).txnWf hc,
    fun r => (IsTemplate.rd2 r).txnWf hc⟩, fun i s t hi hexec hmalformed => ?_⟩
  obtain ⟨-, -, -, hraised, -⟩ := codesOfEachCommand i s t hexec
  obtain rfl | ⟨hbuild, -⟩ := hraised hmalformed
  · exact Bool.false_ne_true hi
  · obtain rfl | rfl | rfl | rfl := (isSequencer_iff i).mp hi <;> exact Bool.false_ne_true hbuild

/-- Settles O37: the templates of the default ROM, element by element. -/
theorem defaultTemplateBits : Obligations.DefaultTemplateBits := by
  unfold Obligations.DefaultTemplateBits
  decide

end Sys2Proof.Machine
end

section
/-! Proofs of the family 42_sequencer, fifth part: the exact values of binary64 patterns and the rounding of R216. A fraction is
read as a rational number; the value of a pattern is an integer times a power of two. -/

namespace Sys2Proof.Machine

/-! ### Rounding to the nearest integer -/

/-- The rounded quotient is at most 1/2 away, and even in a tie. -/
theorem divNearestEven_spec (a : Nat) {b : Nat} (hb : 0 < b) :
    |(divNearestEven a b : ℚ) - a / b| ≤ 1 / 2 ∧
      (|(divNearestEven a b : ℚ) - a / b| = 1 / 2 → divNearestEven a b % 2 = 0) := by
  have hb' : (0 : ℚ) < b := by exact_mod_cast hb
  have hquot : (a : ℚ) / b = (a / b : Nat) + (a % b : Nat) / b := by
    have ha : (a : ℚ) = b * (a / b : Nat) + (a % b : Nat) := by exact_mod_cast (Nat.div_add_mod a b).symm
    rw [div_eq_iff hb'.ne', add_mul, div_mul_cancel₀ _ hb'.ne', mul_comm _ (b : ℚ)]
    exact ha
  have hpos : (0 : ℚ) ≤ (a % b : Nat) / b := by positivity
  have hlt : ((a % b : Nat) : ℚ) / b < 1 := by
    rw [div_lt_one hb']
    exact_mod_cast Nat.mod_lt a hb
  rw [hquot]
  unfold divNearestEven
  dsimp only
  split
  · next hlow =>
    have hlow' : ((a % b : Nat) : ℚ) / b < 1 / 2 := by
      rw [div_lt_div_iff₀ hb' two_pos, one_mul, mul_comm]
      exact_mod_cast hlow
    rw [sub_add_cancel_left, abs_neg, abs_of_nonneg hpos]
    exact ⟨hlow'.le, fun h => absurd h hlow'.ne⟩
  · split
    · next htie =>
      have htie' : ((a % b : Nat) : ℚ) / b = 1 / 2 := by
        rw [div_eq_div_iff hb'.ne' two_ne_zero, one_mul, mul_comm]
        exact_mod_cast htie
      refine ⟨?_, fun _ => by omega⟩
      rw [htie', abs_le]
      rcases Nat.mod_two_eq_zero_or_one (a / b) with h | h <;> rw [h] <;> push_cast <;> constructor <;> linarith
    · next hlow htie =>
      have hhigh : 1 / 2 < ((a % b : Nat) : ℚ) / b := by
        rw [div_lt_div_iff₀ two_pos hb', one_mul, mul_comm]
        exact_mod_cast lt_of_le_of_ne (not_lt.mp hlow) (Ne.symm htie)
      have habs : |((a / b + 1 : Nat) : ℚ) - ((a / b : Nat) + (a % b : Nat) / b)| = 1 - (a % b : Nat) / b := by
        rw [Nat.cast_add, Nat.cast_one, add_sub_add_left_eq_sub, abs_of_nonneg (by linarith)]
      rw [habs]
      exact ⟨by linarith, fun h => by linarith⟩

/-- Every other integer is at least 1/2 away from what lies within 1/2 of `m`. -/
theorem half_le_abs_sub {x : ℚ} {m j : ℤ} (h : |m - x| ≤ 1 / 2) (hj : j ≠ m) : 1 / 2 ≤ |j - x| := by
  have hone : (1 : ℚ) ≤ |(j : ℚ) - m| := by
    exact_mod_cast Int.one_le_abs (sub_ne_zero.mpr hj)
  have htri : |(j : ℚ) - m| ≤ |j - x| + |m - x| := by
    rw [abs_sub_comm (m : ℚ) x]
    exact abs_sub_le _ _ _
  linarith

/-! ### Powers of two -/

/-- The two natural powers by which the model scales a fraction (`ratioLog2`, `roundedMant`, `flNum`, `flDen`). -/
theorem two_zpow_eq (k : ℤ) : (2 : ℚ) ^ k = 2 ^ k.toNat / 2 ^ (-k).toNat := by
  obtain ⟨n, rfl | rfl⟩ := k.eq_nat_or_neg <;> simp

/-- `ratioLog2` is the floor of the logarithm. -/
theorem ratioLog2_spec {n d : Nat} (hn : n ≠ 0) (hd : d ≠ 0) :
    (2 : ℚ) ^ ratioLog2 n d ≤ n / d ∧ (n : ℚ) / d < 2 ^ (ratioLog2 n d + 1) := by
  have hd' : (0 : ℚ) < d := by exact_mod_cast Nat.pos_of_ne_zero hd
  obtain ⟨hnlo, hnhi⟩ := (Nat.log2_eq_iff hn).mp rfl
  obtain ⟨hdlo, hdhi⟩ := (Nat.log2_eq_iff hd).mp rfl
  obtain ⟨k, hk⟩ : ∃ k : ℤ, k = (Nat.log2 n : ℤ) - (Nat.log2 d : ℤ) := ⟨_, rfl⟩
  have hupper : (n : ℚ) / d < 2 ^ (k + 1) := by
    have hpow : (2 : ℚ) ^ (k + 1) = 2 ^ (n.log2 + 1) / 2 ^ d.log2 := by
      rw [show k + 1 = ((n.log2 + 1 : Nat) : ℤ) - (d.log2 : ℤ) by push_cast; omega, zpow_sub₀ two_ne_zero,
        zpow_natCast, zpow_natCast]
    rw [hpow]
    exact div_lt_div₀ (by exact_mod_cast hnhi) (by exact_mod_cast hdlo) (by positivity) (by positivity)
  have hlower : (2 : ℚ) ^ (k - 1) ≤ n / d := by
    have hpow : (2 : ℚ) ^ (k - 1) = 2 ^ n.log2 / 2 ^ (d.log2 + 1) := by
      rw [show k - 1 = (n.log2 : ℤ) - ((d.log2 + 1 : Nat) : ℤ) by push_cast; omega, zpow_sub₀ two_ne_zero,
        zpow_natCast, zpow_natCast]
    rw [hpow]
    exact div_le_div₀ (by positivity) (by exact_mod_cast hnlo) hd' (by exact_mod_cast hdhi.le)
  have hcond : d * 2 ^ k.toNat ≤ n * 2 ^ (-k).toNat ↔ (2 : ℚ) ^ k ≤ n / d := by
    rw [two_zpow_eq, div_le_div_iff₀ (by positivity) hd', mul_comm _ (d : ℚ)]
    exact_mod_cast Iff.rfl
  unfold ratioLog2
  dsimp only
  rw [← hk]
  split
  · next h => exact ⟨hcond.mp h, hupper⟩
  · next h => exact ⟨hlower, by simpa using mt hcond.mpr h⟩

/-! ### Rounding to 53 bits (R216) -/

/-- `m * 2 ^ e` is `x` rounded to 53 bits, to nearest and in a tie to even `m`. -/
structure Rounds (x : ℚ) (m : Nat) (e : ℤ) : Prop where
  lo : 2 ^ (e + 52) ≤ x
  hi : x < 2 ^ (e + 53)
  near : |(m : ℚ) - x / 2 ^ e| ≤ 1 / 2
  even : |(m : ℚ) - x / 2 ^ e| = 1 / 2 → m % 2 = 0

/-- The fractions for which neither the subnormal nor the overflow branch of `fl` is taken. -/
def NormalRange (x : ℚ) : Prop := 2 ^ (-1022 : ℤ) ≤ x ∧ x < 2 ^ (1023 : ℤ)

section
variable {n d : Nat} (hx : NormalRange ((n : ℚ) / d)) (hd : 0 < d)
include hx

theorem NormalRange.num_ne_zero : n ≠ 0 := by
  rintro rfl
  obtain ⟨hlo, -⟩ := hx
  rw [Nat.cast_zero, zero_div] at hlo
  exact absurd hlo (not_le.mpr (by positivity))

include hd

/-- In the normal range the last place is 52 below the leading bit. -/
theorem ulpExp_of_normal : ulpExp n d = ratioLog2 n d - 52 ∧ -1022 ≤ ratioLog2 n d ∧ ratioLog2 n d ≤ 1022 := by
  obtain ⟨hlo, hhi⟩ := ratioLog2_spec hx.num_ne_zero hd.ne'
  obtain ⟨hxlo, hxhi⟩ := hx
  have hmin : -1022 < ratioLog2 n d + 1 := (zpow_lt_zpow_iff_right₀ one_lt_two).mp (hxlo.trans_lt hhi)
  have hmax : ratioLog2 n d < 1023 := (zpow_lt_zpow_iff_right₀ one_lt_two).mp (hlo.trans_lt hxhi)
  unfold ulpExp
  omega

theorem roundedMant_rounds : Rounds ((n : ℚ) / d) (roundedMant n d) (ulpExp n d) := by
  obtain ⟨hlo, hhi⟩ := ratioLog2_spec hx.num_ne_zero hd.ne'
  obtain ⟨hulp, -, -⟩ := ulpExp_of_normal hx hd
  have hscale : ((n * 2 ^ (-ulpExp n d).toNat : Nat) : ℚ) / (d * 2 ^ (ulpExp n d).toNat : Nat) =
      (n : ℚ) / d / 2 ^ ulpExp n d := by
    rw [two_zpow_eq (ulpExp n d)]
    push_cast
    field_simp
  obtain ⟨hnear, heven⟩ := divNearestEven_spec (n * 2 ^ (-ulpExp n d).toNat)
    (b := d * 2 ^ (ulpExp n d).toNat) (by positivity)
  rw [hscale] at hnear heven
  refine ⟨?_, ?_, hnear, heven⟩
  · rwa [hulp, sub_add_cancel]
  · rwa [hulp, show ratioLog2 n d - 52 + 53 = ratioLog2 n d + 1 by ring]

end

/-- Distances on the grid of the multiples of `2 ^ e` (used with `j` an integer). -/
theorem abs_mul_zpow_sub (j x : ℚ) (e : ℤ) : |j * 2 ^ e - x| = |j - x / 2 ^ e| * 2 ^ e := by
  have hpos : (0 : ℚ) < 2 ^ e := by positivity
  rw [← abs_of_pos hpos, ← abs_mul, abs_of_pos hpos, sub_mul, div_mul_cancel₀ _ hpos.ne']

/-- A value with a significand below `2 ^ 53` lies below the binade of exponent `e` or on its grid. -/
theorem lt_binade_or_on_grid {z : ℤ} (hz : z < 2 ^ 53) (k e : ℤ) :
    (z : ℚ) * 2 ^ k < 2 ^ (e + 52) ∨ ∃ j : ℤ, (z : ℚ) * 2 ^ k = j * 2 ^ e := by
  rw [or_iff_not_imp_left, not_lt]
  intro hbinade
  have hlt : (z : ℚ) * 2 ^ k < 2 ^ (53 + k) := by
    rw [zpow_add₀ two_ne_zero]
    exact mul_lt_mul_of_pos_right (by exact_mod_cast hz) (by positivity)
  have hexp : e + 52 < 53 + k := (zpow_lt_zpow_iff_right₀ one_lt_two).mp (hbinade.trans_lt hlt)
  obtain ⟨n, rfl⟩ : ∃ n : Nat, k = e + n := Int.le.dest (by omega) |>.imp fun _ => Eq.symm
  refine ⟨z * 2 ^ n, ?_⟩
  rw [zpow_add₀ two_ne_zero, zpow_natCast]
  push_cast
  ring

namespace Rounds

section
variable {x : ℚ} {m : Nat} {e : ℤ} (h : Rounds x m e)
include h

theorem error_le : |(m : ℚ) * 2 ^ e - x| ≤ 2 ^ (e - 1) := by
  rw [abs_mul_zpow_sub, zpow_sub_one₀ two_ne_zero, mul_comm, ← one_div]
  exact mul_le_mul_of_nonneg_left h.near (by positivity)

/-- The rounded significand: 53 bits, or the power of two after them by a carry. -/
theorem mant_bounds : 2 ^ 52 ≤ m ∧ m ≤ 2 ^ 53 := by
  have hpos : (0 : ℚ) < 2 ^ e := by positivity
  have hlo : (2 : ℚ) ^ 52 ≤ x / 2 ^ e := by
    rw [le_div_iff₀ hpos, ← zpow_natCast, ← zpow_add₀ two_ne_zero, add_comm]
    exact h.lo
  have hhi : x / 2 ^ e < (2 : ℚ) ^ 53 := by
    rw [div_lt_iff₀ hpos, ← zpow_natCast, ← zpow_add₀ two_ne_zero, add_comm]
    exact h.hi
  obtain ⟨hbelow, habove⟩ := abs_le.mp h.near
  constructor
  · have hlt : ((2 ^ 52 : Nat) : ℚ) < (m + 1 : Nat) := by push_cast; linarith
    exact Nat.lt_succ_iff.mp (by exact_mod_cast hlt)
  · have hlt : (m : ℚ) < (2 ^ 53 + 1 : Nat) := by push_cast; linarith
    exact Nat.lt_succ_iff.mp (by exact_mod_cast hlt)

/-- No multiple of `2 ^ e` is nearer. -/
theorem le_of_on_grid (j : ℤ) : |(m : ℚ) * 2 ^ e - x| ≤ |j * 2 ^ e - x| ∧
    (|(m : ℚ) * 2 ^ e - x| = |j * 2 ^ e - x| → (j : ℚ) * 2 ^ e ≠ m * 2 ^ e → m % 2 = 0) := by
  have hpos : (0 : ℚ) < 2 ^ e := by positivity
  by_cases hj : j = m
  · subst hj
    exact ⟨by simp, fun _ hne => absurd rfl hne⟩
  · have hfar : 1 / 2 ≤ |(j : ℚ) - x / 2 ^ e| := half_le_abs_sub (m := m) h.near hj
    rw [abs_mul_zpow_sub, abs_mul_zpow_sub]
    refine ⟨mul_le_mul_of_nonneg_right (h.near.trans hfar) hpos.le, fun htie _ => h.even ?_⟩
    exact le_antisymm h.near (mul_right_cancel₀ hpos.ne' htie ▸ hfar)

/-- No value with a significand below `2 ^ 53` is nearer, and none is as near unless `m` is even: below the binade of `x`
the power of two that begins it is nearer. -/
theorem nearest {z : ℤ} (hz : z < 2 ^ 53) (k : ℤ) : |(m : ℚ) * 2 ^ e - x| ≤ |z * 2 ^ k - x| ∧
    (|(m : ℚ) * 2 ^ e - x| = |z * 2 ^ k - x| → (z : ℚ) * 2 ^ k ≠ m * 2 ^ e → m % 2 = 0) := by
  obtain hbelow | ⟨j, hj⟩ := lt_binade_or_on_grid hz k e
  · have hlo := h.lo
    have hbinade : |(m : ℚ) * 2 ^ e - x| ≤ x - 2 ^ (e + 52) := by
      obtain ⟨hle, -⟩ := h.le_of_on_grid (2 ^ 52)
      have hfirst : ((2 ^ 52 : ℤ) : ℚ) * 2 ^ e = 2 ^ (e + 52) := by
        rw [add_comm, zpow_add₀ two_ne_zero]
        norm_num
      rwa [hfirst, abs_sub_comm (2 ^ (e + 52)) x, abs_of_nonneg (sub_nonneg.mpr hlo)] at hle
    have hlt : |(m : ℚ) * 2 ^ e - x| < |z * 2 ^ k - x| := by
      rw [abs_sub_comm _ x, abs_sub_comm _ x, abs_of_nonneg (a := x - z * 2 ^ k) (by linarith), abs_sub_comm x]
      linarith
    exact ⟨hlt.le, fun htie => absurd htie hlt.ne⟩
  · rw [hj]
    exact h.le_of_on_grid j

end

end Rounds

/-! ### Patterns (R216, log 15) -/

/-- The exact value of a finite pattern. -/
def value (x : BitVec 64) : ℚ := flNum x / flDen x

/-- The sign of a pattern. -/
def signOf (x : BitVec 64) : ℤ := if x.getLsbD 63 then -1 else 1

theorem value_eq (x : BitVec 64) : value x = ((signOf x * mantOf x : ℤ) : ℚ) * 2 ^ lastPlaceOf x := by
  rw [value, two_zpow_eq (lastPlaceOf x), mul_div_assoc']
  congr 1
  · unfold flNum signOf
    dsimp only
    split <;> push_cast <;> ring
  · simp [flDen]

theorem mantOf_lt (x : BitVec 64) : mantOf x < 2 ^ 53 := by
  have hfrac : fracField x < 2 ^ 52 := (x.extractLsb' 0 52).isLt
  unfold mantOf
  split <;> omega

/-- The fields of the pattern made of a sign, an exponent and a fraction. -/
theorem fields_ofNat (neg : Prop) [Decidable neg] {E F : Nat} (hE : E < 2 ^ 11) (hF : F < 2 ^ 52) :
    expField (BitVec.ofNat 64 ((if neg then 2 ^ 63 else 0) + (E * 2 ^ 52 + F))) = E ∧
    fracField (BitVec.ofNat 64 ((if neg then 2 ^ 63 else 0) + (E * 2 ^ 52 + F))) = F ∧
    signOf (BitVec.ofNat 64 ((if neg then 2 ^ 63 else 0) + (E * 2 ^ 52 + F))) = if neg then -1 else 1 := by
  refine ⟨?_, ?_, ?_⟩
  · rw [expField, BitVec.extractLsb'_toNat, BitVec.toNat_ofNat, Nat.shiftRight_eq_div_pow]
    split <;> omega
  · rw [fracField, BitVec.extractLsb'_toNat, BitVec.toNat_ofNat, Nat.shiftRight_eq_div_pow]
    split <;> omega
  · rw [signOf, BitVec.getLsbD_ofNat, Nat.testBit_eq_decide_div_mod_eq]
    split <;> simp <;> omega

/-- In the normal range the fields of `roundMag` are those of the rounded significand, with its carry into the exponent. -/
theorem roundMag_fields {n d : Nat} (hx : NormalRange ((n : ℚ) / d)) (hd : 0 < d) :
    ∃ E F : Nat, roundMag n d = E * 2 ^ 52 + F ∧ 0 < E ∧ E < 0x7FF ∧ F < 2 ^ 52 ∧ F % 2 = roundedMant n d % 2 ∧
      ((F + 2 ^ 52 : Nat) : ℚ) * 2 ^ ((E : ℤ) - 1075) = roundedMant n d * 2 ^ ulpExp n d := by
  obtain ⟨hulp, hmin, hmax⟩ := ulpExp_of_normal hx hd
  obtain ⟨hlo, hhi⟩ := (roundedMant_rounds hx hd).mant_bounds
  obtain ⟨a, ha⟩ : ∃ a : Nat, ulpExp n d = a - 1074 := ⟨(ulpExp n d + 1074).toNat, by omega⟩
  have hmag : roundMag n d = a * 2 ^ 52 + roundedMant n d := by
    rw [roundMag, if_neg hx.num_ne_zero, ha, sub_add_cancel, Int.toNat_natCast]
    exact min_eq_left (by omega)
  rw [hmag, ha]
  obtain hlt | hcarry := hhi.lt_or_eq
  · refine ⟨a + 1, roundedMant n d - 2 ^ 52, by omega, by omega, by omega, by omega, by omega, ?_⟩
    rw [Nat.sub_add_cancel hlo, show ((a + 1 : Nat) : ℤ) - 1075 = a - 1074 by push_cast; ring]
  · refine ⟨a + 2, 0, by omega, by omega, by omega, by omega, by omega, ?_⟩
    rw [hcarry, show ((a + 2 : Nat) : ℤ) - 1075 = 1 + (a - 1074) by push_cast; ring, zpow_add₀ two_ne_zero]
    push_cast
    ring

/-- The sign `fl` gives a fraction, that of its numerator. -/
def unitOf (num : ℤ) : ℤ := if num < 0 then -1 else 1

theorem unitOf_mul_natAbs (num : ℤ) : unitOf num * num.natAbs = num := by
  unfold unitOf
  split <;> omega

theorem div_eq_unitOf_mul (num : ℤ) (den : Nat) : (num : ℚ) / den = unitOf num * ((num.natAbs : ℚ) / den) := by
  have hnum : (unitOf num : ℚ) * ((num.natAbs : ℤ) : ℚ) = num := by
    rw [← Int.cast_mul, unitOf_mul_natAbs]
  rw [mul_div_assoc', ← Int.cast_natCast num.natAbs, hnum]

/-- `fl` in the normal range: the sign, the rounded significand with the parity of the fraction field, and an exponent field of
a normal number. -/
theorem flFrac_of_normal {num : ℤ} {den : Nat} (hx : NormalRange ((num.natAbs : ℚ) / den)) (hden : 0 < den) :
    ∃ m e, Rounds ((num.natAbs : ℚ) / den) m e ∧
      value (flFrac num den) = unitOf num * (m * 2 ^ e) ∧
      fracField (flFrac num den) % 2 = m % 2 ∧
      expField (flFrac num den) ≠ 0 ∧ expField (flFrac num den) ≠ 0x7FF := by
  obtain ⟨E, F, hmag, hpos, hE, hF, hparity, hval⟩ := roundMag_fields hx hden
  obtain ⟨hexp, hfrac, hsign⟩ := fields_ofNat (num < 0) (E := E) (hE.trans (by decide)) hF
  rw [← hmag] at hexp hfrac hsign
  refine ⟨_, _, roundedMant_rounds hx hden, ?_, by rw [flFrac, hfrac, hparity], by rw [flFrac, hexp]; exact hpos.ne',
    by rw [flFrac, hexp]; exact hE.ne⟩
  rw [← hval, value_eq, flFrac, hsign, unitOf, mantOf, lastPlaceOf, hexp, hfrac, if_neg hpos.ne', max_eq_left hpos]
  push_cast
  ring

/-! ### The obligation -/

/-- A sign moves from one end of a distance to the other. -/
theorem abs_unitOf_mul_sub (num : ℤ) (x y : ℚ) : |unitOf num * x - y| = |x - unitOf num * y| := by
  unfold unitOf
  split
  · rw [← abs_neg]
    congr 1
    push_cast
    ring
  · simp

theorem unitOf_mul_self (num : ℤ) (x : ℚ) : (unitOf num : ℚ) * (unitOf num * x) = x := by
  unfold unitOf
  split <;> simp

/-- Settles O41: up to the sign of the fraction it is `Rounds.nearest`, as every finite pattern has a significand below
`2 ^ 53`. -/
theorem roundingIsNearestEven : Obligations.RoundingIsNearestEven := by
  intro num den x hden hlo hhi _ q r y
  have hden' : (0 : ℚ) < den := by exact_mod_cast hden
  have hx : NormalRange ((num.natAbs : ℚ) / den) := by
    constructor
    · rw [le_div_iff₀ hden', zpow_neg, inv_mul_le_iff₀ (by positivity), mul_comm]
      exact_mod_cast hlo
    · rw [div_lt_iff₀ hden', mul_comm]
      exact_mod_cast hhi
  obtain ⟨m, e, hrounds, hvalue, hparity, -, -⟩ := flFrac_of_normal hx hden
  have hq : q = unitOf num * ((num.natAbs : ℚ) / den) := div_eq_unitOf_mul num den
  have hr : r = unitOf num * (m * 2 ^ e) := hvalue
  have hy : unitOf num * y = ((unitOf num * (signOf x * mantOf x) : ℤ) : ℚ) * 2 ^ lastPlaceOf x := by
    rw [show y = value x from rfl, value_eq]
    push_cast
    ring
  have hz : unitOf num * (signOf x * mantOf x) < 2 ^ 53 := by
    have hmant := mantOf_lt x
    unfold unitOf signOf
    split <;> split <;> omega
  have hdist : |r - q| = |m * 2 ^ e - (num.natAbs : ℚ) / den| := by
    rw [hq, ← abs_unitOf_mul_sub, hr, unitOf_mul_self]
  have hdisty : |y - q| = |unitOf num * y - (num.natAbs : ℚ) / den| := by
    rw [hq, abs_unitOf_mul_sub]
  obtain ⟨hle, htie⟩ := hrounds.nearest hz (lastPlaceOf x)
  rw [hdist, hdisty, hy, hparity]
  refine ⟨hle, fun h hne => htie h fun hsame => hne ?_⟩
  rw [← unitOf_mul_self num y, hy, hsame, hr]

end Sys2Proof.Machine
end

section
/-! Proofs of the family 42_sequencer, sixth part: the Celsius transform with R216's literals. -/

namespace Sys2Proof.Machine

/-! ### The literals (R9, R216) -/

/-- R216's `C`, the pattern nearest 36.53. -/
def offsetLiteral : BitVec 64 := 0x404243D70A3D70A4

theorem flQuot_340 (num : ℤ) : flQuot num 0x4075400000000000 = flFrac num 340 := by
  have hnum : flNum 0x4075400000000000 = 340 * 2 ^ 44 := by decide +kernel
  have hden : flDen 0x4075400000000000 = 2 ^ 44 := by decide +kernel
  have hsign : Int.sign (340 * 2 ^ 44) = 1 := rfl
  have habs : Int.natAbs (340 * 2 ^ 44) = 340 * 2 ^ 44 := rfl
  rw [flQuot, hnum, hden, hsign, habs, mul_one, ← flFrac_scale num (by decide) 44, Nat.cast_pow, Nat.cast_ofNat]

/-- Settles O54: the divisor is 340 at the scale `2 ^ 44`, which rounding does not see (`flFrac_scale`). -/
theorem celsiusIsTheDocumentsFormula : Obligations.CelsiusIsTheDocumentsFormula := by
  refine ⟨fun c raw hdivisor hoffset => ?_, by decide +kernel, by decide +kernel⟩
  rw [celsius_eq, hdivisor, hoffset, flQuot_340]

/-- Settles O39: each vector by evaluation. -/
theorem celsiusVectors : Obligations.CelsiusVectors := by
  unfold Obligations.CelsiusVectors
  decide +kernel

theorem celsius_default (raw : BitVec 16) :
    celsius Config.default raw = flAdd (flFrac raw.toInt 340) offsetLiteral := by
  rw [celsius_eq, ← flQuot_340]
  rfl

theorem offsetLiteral_near : |value offsetLiteral - 3653 / 100| ≤ 2 ^ (-48 : ℤ) := by
  have hnum : flNum offsetLiteral = 0x1243D70A3D70A4 := by decide +kernel
  have hden : flDen offsetLiteral = 2 ^ 47 := by decide +kernel
  rw [value, hnum, hden, abs_le]
  constructor <;> norm_num

/-! ### Rounding errors -/

/-- Below `2 ^ k` in magnitude, `fl` is off by at most half of the last of 53 bits, and gives a normal number. -/
theorem flFrac_near {num : ℤ} {den : Nat} (hden : 0 < den) {k : ℤ} (hk : k ≤ 1023)
    (hlo : 2 ^ (-1022 : ℤ) ≤ |(num : ℚ) / den|) (hhi : |(num : ℚ) / den| < 2 ^ k) :
    |value (flFrac num den) - num / den| ≤ 2 ^ (k - 54) ∧
      expField (flFrac num den) ≠ 0 ∧ expField (flFrac num den) ≠ 0x7FF := by
  have habs : |(num : ℚ) / den| = (num.natAbs : ℚ) / den := by
    rw [abs_div, Nat.abs_cast, Nat.cast_natAbs, Int.cast_abs]
  rw [habs] at hlo hhi
  obtain ⟨m, e, hrounds, hvalue, -, hzero, hinf⟩ := flFrac_of_normal
    ⟨hlo, hhi.trans_le (zpow_le_zpow_right₀ one_le_two hk)⟩ hden
  have hexp : e + 52 < k := (zpow_lt_zpow_iff_right₀ one_lt_two).mp (hrounds.lo.trans_lt hhi)
  refine ⟨?_, hzero, hinf⟩
  rw [hvalue, div_eq_unitOf_mul, ← abs_unitOf_mul_sub, unitOf_mul_self]
  exact hrounds.error_le.trans (zpow_le_zpow_right₀ one_le_two (by omega))

theorem flDen_pos (x : BitVec 64) : (0 : ℚ) < flDen x := by
  simp [flDen]

/-- `fl(x + y)` rounds the exact sum (R216). -/
theorem flAdd_eq {x : BitVec 64} (hx : expField x ≠ 0x7FF) (y : BitVec 64) :
    ∃ (num : ℤ) (den : Nat), 0 < den ∧ (num : ℚ) / den = value x + value y ∧ flAdd x y = flFrac num den := by
  refine ⟨_, _, Nat.mul_pos (Nat.cast_pos.mp (flDen_pos x)) (Nat.cast_pos.mp (flDen_pos y)), ?_, by rw [flAdd, if_neg hx]⟩
  rw [value, value, div_add_div _ _ (flDen_pos x).ne' (flDen_pos y).ne']
  push_cast
  ring

/-- A small power of two is in the normal range. -/
theorem minNormal_le {x : ℚ} (h : 2 ^ (-11 : ℤ) ≤ x) : 2 ^ (-1022 : ℤ) ≤ x :=
  (zpow_le_zpow_right₀ one_le_two (by decide)).trans h

theorem quotient_near {n : ℤ} (hlo : -32768 ≤ n) (hhi : n ≤ 32767) :
    |value (flFrac n 340) - n / 340| ≤ 2 ^ (-47 : ℤ) ∧ expField (flFrac n 340) ≠ 0x7FF := by
  by_cases hn : n = 0
  · subst hn
    have hzero : flNum (flFrac 0 340) = 0 := by decide +kernel
    have hvalue : value (flFrac 0 340) = 0 := by rw [value, hzero, Int.cast_zero, zero_div]
    exact ⟨by rw [hvalue]; norm_num, by decide +kernel⟩
  · have hone : (1 : ℚ) ≤ |(n : ℚ)| := by exact_mod_cast Int.one_le_abs hn
    have hmax : |(n : ℚ)| ≤ 32768 := by
      rw [abs_le]
      constructor
      · exact_mod_cast hlo
      · exact_mod_cast hhi.trans (by decide)
    have habs : |(n : ℚ) / (340 : Nat)| = |(n : ℚ)| / 340 := by rw [abs_div]; norm_num
    obtain ⟨hnear, -, hinf⟩ := flFrac_near (num := n) (den := 340) (by decide) (k := 7) (by decide)
      (minNormal_le (by rw [habs]; norm_num; linarith)) (by rw [habs]; norm_num; linarith)
    exact ⟨by exact_mod_cast hnear, hinf⟩

/-! ### The Celsius value of a sample -/

/-- No sample comes nearer than 1/1700 to the zero of the Celsius scale. -/
theorem exact_celsius_ne_zero (n : ℤ) : 1 / 1700 ≤ |(n : ℚ) / 340 + 3653 / 100| := by
  have hint : (1 : ℚ) ≤ |((5 * n + 62101 : ℤ) : ℚ)| := by
    exact_mod_cast Int.one_le_abs (by omega)
  have hscale : (n : ℚ) / 340 + 3653 / 100 = ((5 * n + 62101 : ℤ) : ℚ) / 1700 := by
    push_cast
    ring
  rw [hscale, abs_div, abs_of_pos (by norm_num : (0 : ℚ) < 1700)]
  linarith

/-- The Celsius value is within `2 ^ -45` of the unrounded sum, and a normal number. -/
theorem celsius_near (raw : BitVec 16) :
    |value (celsius Config.default raw) - (raw.toInt / 340 + value offsetLiteral)| ≤ 2 ^ (-45 : ℤ) ∧
      expField (celsius Config.default raw) ≠ 0 ∧ expField (celsius Config.default raw) ≠ 0x7FF := by
  have hlo : -32768 ≤ raw.toInt := raw.le_toInt
  have hhi : raw.toInt ≤ 32767 := Int.le_of_lt_add_one raw.toInt_lt
  obtain ⟨hquot, hinf⟩ := quotient_near hlo hhi
  obtain ⟨num, den, hden, hsum, hadd⟩ := flAdd_eq hinf offsetLiteral
  obtain ⟨S, hS⟩ : ∃ S, S = value (flFrac raw.toInt 340) + value offsetLiteral := ⟨_, rfl⟩
  rw [← hS] at hsum
  have hround : |S - (raw.toInt / 340 + value offsetLiteral)| ≤ 2 ^ (-47 : ℤ) := by
    rwa [hS, add_sub_add_right_eq_sub]
  have hexact : |S - (raw.toInt / 340 + 3653 / 100)| ≤ 2 ^ (-46 : ℤ) := by
    have htri := abs_sub_le S (raw.toInt / 340 + value offsetLiteral) (raw.toInt / 340 + 3653 / 100)
    have hoff := offsetLiteral_near
    rw [add_sub_add_left_eq_sub] at htri
    norm_num at hround hoff ⊢
    linarith
  have hSlo : 2 ^ (-11 : ℤ) ≤ |S| := by
    have htri := abs_sub_abs_le_abs_sub ((raw.toInt : ℚ) / 340 + 3653 / 100) S
    have hzero := exact_celsius_ne_zero raw.toInt
    rw [abs_sub_comm] at htri
    norm_num at hexact ⊢
    linarith
  have hShi : |S| < 2 ^ (8 : ℤ) := by
    have hlo' : (-32768 : ℚ) ≤ raw.toInt := by exact_mod_cast hlo
    have hhi' : (raw.toInt : ℚ) ≤ 32767 := by exact_mod_cast hhi
    obtain ⟨hbelow, habove⟩ := abs_le.mp hexact
    rw [abs_lt]
    norm_num at hbelow habove ⊢
    constructor <;> linarith
  rw [← hsum] at hSlo hShi
  obtain ⟨hnear, hnormal⟩ := flFrac_near hden (by decide) (minNormal_le hSlo) hShi
  rw [hsum] at hnear
  rw [celsius_default, hadd]
  refine ⟨?_, hnormal⟩
  have htri := abs_sub_le (value (flFrac num den)) S (raw.toInt / 340 + value offsetLiteral)
  norm_num at hnear hround ⊢
  linarith

/-- Settles O40: two samples are at least 1/340 apart, far more than the two rounding errors of `celsius_near` together. -/
theorem celsiusFiniteAndIncreasing : Obligations.CelsiusFiniteAndIncreasing := by
  intro a b
  obtain ⟨ha, hzero, hinf⟩ := celsius_near a
  refine ⟨hinf, hzero, fun hab => ?_⟩
  obtain ⟨hb, -, -⟩ := celsius_near b
  have hstep : (a.toInt : ℚ) + 1 ≤ b.toInt := by exact_mod_cast hab
  have hlt : value (celsius Config.default a) < value (celsius Config.default b) := by
    obtain ⟨-, habove⟩ := abs_le.mp ha
    obtain ⟨hbelow, -⟩ := abs_le.mp hb
    norm_num at habove hbelow
    linarith
  rw [value, value, div_lt_div_iff₀ (flDen_pos _) (flDen_pos _)] at hlt
  exact_mod_cast hlt

end Sys2Proof.Machine
end

section
/-! Proofs of the family 60_exceptions: no command and no host input is refused or faults (R230, R234). -/

namespace Sys2Proof.Machine

/-- Every command ends in a next state: a failure is a code reported there (R234), and the transport always answers (log 8). -/
theorem exec_completes (i : Instr) (s : State) : ∃ t, exec i s = .next t := by
  obtain ⟨t, hexec, -⟩ := exec_finishes i s
  exact ⟨t, hexec⟩

/-- Every host input is taken whole, a word that decodes to no command included (R85). -/
theorem step_completes (s : State) : ∃ t, step s = .next t := by
  obtain ⟨-, hwait⟩ | ⟨w, i, rest, -, -, hcmd⟩ | ⟨w, why, rest, -, -, hillegal⟩ | ⟨n, rest, -, hread⟩ |
    ⟨rest, -, hreset⟩ := step_cases s
  · exact ⟨_, hwait⟩
  · rw [hcmd]
    exact exec_completes i _
  · exact ⟨_, hillegal⟩
  · exact ⟨_, hread⟩
  · exact ⟨_, hreset⟩

/-- Settles O15: the commands by what each finishes with, the steps by the input each takes. -/
theorem everyStepCompletes : Obligations.EveryStepCompletes :=
  ⟨exec_completes, step_completes⟩

end Sys2Proof.Machine
end

section
/-! Proofs of the family 70_reset_and_hazards: the reset input (R260), the wait for a command (R261), and the identity check
that comes before the configuration's traffic (R269). -/

namespace Sys2Proof.Machine

/-- CONFIGURE makes no transport call while `Uninitialized`: it is refused, as `Busy` or as out of order (R181, R191). -/
theorem exec_configure_busLog_of_uninitialized {s t : State} (hwf : s.wf = .uninitialized)
    (hexec : exec .configure s = .next t) : t.busLog = s.busLog := by
  by_cases hclosed : s.bph = .closed
  · rw [exec_configure_of_closed hclosed, configure_of_uninitialized hwf] at hexec
    cases hexec
    rfl
  · rw [exec_of_open rfl hclosed] at hexec
    cases hexec
    rfl

/-- Settles O46: traffic means that the workflow is past `Uninitialized`, where the history holds a successful check. -/
theorem configureNeedsIdentity : Obligations.ConfigureNeedsIdentity := fun _ _ hseen hexec htraffic =>
  hseen fun hwf => htraffic (exec_configure_busLog_of_uninitialized hwf hexec)

/-- Settles O7: the law of a step on the reset input, with the input taken and the reset state written out. -/
theorem resetInput : Obligations.ResetInput := by
  intro s rest hhost
  rw [step_reset hhost, popInput_of_host_eq_cons hhost]
  rfl

/-- Settles O13: the law of a step with no input pending. -/
theorem waitsForACommand : Obligations.WaitsForACommand := fun _ hhost => step_waits hhost

end Sys2Proof.Machine
end
